-- ==== Sys2Proof/Word.lean ====
section
/-! DEFINITION. The plain value types of the XD16: link bytes, the 16-bit and 32-bit fields of
Chapter 11, and tables with a fixed number of records. -/

namespace Sys2Proof

/-- One byte of a link frame or a field loop frame (R214, R220). -/
abbrev Byte := BitVec 8

/-- A two-byte field, most significant byte first on the wire (Chapter 11). -/
abbrev Half := BitVec 16

/-- A four-byte field: a pallet tag, a trailer id, a site time, the site-time offset. -/
abbrev Word := BitVec 32

/-- A table with exactly `n` records (the capacities table of 00_scope.md). -/
abbrev Table (α : Type) (n : Nat) := Vector α n

end Sys2Proof
end

