-- ==== Sys2Proof/Syntax.lean ====
section
/-! DEFINITION. The commands of the XD16: one constructor of `Instr` per row of spec/opcode_table.json.
The request rows carry the link, the frame's tag and the body's fields as Chapter 11 encodes them
(R216, R217), so that every value a host can send, in range or not, is a command. -/

namespace Sys2Proof

/-- The two host links (R195). -/
inductive Link where
  | site
  | floor
  deriving DecidableEq, Repr

/-- R216: a location as it is sent, a kind byte and an index byte. -/
structure RawLoc where
  kind : Byte
  index : Byte
  deriving DecidableEq, Repr

/-- SET_ZONE (R2; body layout in R218, bytes 0 to 10 of the zone record). -/
structure SetZone where
  zone : Byte
  kind : Byte
  setPoint : Half
  highLimit : Half
  lowLimit : Half
  alarmDelay : Half
  rounding : Byte
  deriving DecidableEq, Repr

/-- SET_PROBE (R5, R217): the target 0xFF unbinds. -/
structure SetProbe where
  probe : Byte
  target : Byte
  offset : Byte
  deriving DecidableEq, Repr

/-- SET_CLASS (R22). -/
structure SetClass where
  cls : Byte
  limit : Half
  weight : Byte
  budget : Half
  warn : Byte
  deriving DecidableEq, Repr

/-- One entry of ADMIT (R25, R217). -/
structure AdmitEntry where
  tag : Word
  cls : Byte
  present : Byte
  budget : Half
  deriving DecidableEq, Repr

/-- ADMIT (R25, R217). -/
structure Admit where
  location : RawLoc
  entries : List AdmitEntry
  deriving DecidableEq, Repr

/-- AMEND_PALLET (R39, R217). -/
structure AmendPallet where
  tag : Word
  revision : Half
  mask : Byte
  budget : Half
  cls : Byte
  deriving DecidableEq, Repr

/-- LIST_PALLETS (R42): filter and start slot. -/
structure ListPallets where
  filter : RawLoc
  start : Half
  deriving DecidableEq, Repr

/-- SET_LANE (R47). -/
structure SetLane where
  lane : Byte
  zone : Byte
  capacity : Byte
  state : Byte
  deriving DecidableEq, Repr

/-- One descriptor of POST_MOVES (R53, R217). -/
structure RawMove where
  tag : Word
  source : RawLoc
  dest : RawLoc
  flags : Byte
  allowance : Half
  deriving DecidableEq, Repr

/-- POST_MOVES (R53, R217). -/
structure PostMoves where
  ring : Byte
  moves : List RawMove
  deriving DecidableEq, Repr

/-- READ_RING (R61, R217). -/
structure ReadRing where
  ring : Byte
  offset : Byte
  clear : Byte
  deriving DecidableEq, Repr

/-- SET_DOOR (R77; the first 15 bytes of the door record of R218). -/
structure SetDoor where
  door : Byte
  dockZone : Byte
  weight : Byte
  hold : Half
  low : Half
  release : Half
  inflateTimeout : Half
  travelTimeout : Byte
  leakGrace : Byte
  closeWait : Half
  deriving DecidableEq, Repr

/-- ASSIGN_TRAILER (R85): a capacity byte of 0 is absent (R216). -/
structure AssignTrailer where
  door : Byte
  trailerId : Word
  direction : Byte
  capacity : Byte
  deriving DecidableEq, Repr

/-- SET_DEFROST (R111, R217). -/
structure SetDefrost where
  zone : Byte
  threshold : Half
  maxInterval : Word
  quantum : Byte
  termination : Half
  maxDuration : Half
  dripTime : Half
  recoveryTimeout : Half
  maxDeferral : Half
  deriving DecidableEq, Repr

/-- SET_CHANNEL (R137). -/
structure SetChannel where
  channel : Byte
  level : Byte
  deriving DecidableEq, Repr

/-- ACK_ALARM (R155, R217): a kind, and a subject sent as a type and four bytes (R216). -/
structure AckAlarm where
  kind : Byte
  subjectType : Byte
  subjectIndex : Word
  deriving DecidableEq, Repr

/-- SET_TERMINAL (R179). -/
structure SetTerminal where
  terminal : Byte
  binding : RawLoc
  deriving DecidableEq, Repr

/-- COMMISSION (R208, R217). -/
structure CommissionArgs where
  siteNumber : Half
  doors : Byte
  zones : Byte
  deriving DecidableEq, Repr

/-- A request whose code and body length R215 admits, with its fields as R217 lays them out. -/
inductive Request where
  | setZone (a : SetZone)
  | setProbe (a : SetProbe)
  | readZone (zone clear : Byte)
  | readProbe (probe : Byte)
  | setClass (a : SetClass)
  | readClass (cls : Byte)
  | admitPallets (a : Admit)
  | amendPallet (a : AmendPallet)
  | readPallet (tag : Word)
  | listPallets (a : ListPallets)
  | releasePallet (tag : Word)
  | setLane (a : SetLane)
  | blockLane (lane : Byte)
  | unblockLane (lane : Byte)
  | readLane (lane : Byte)
  | postMoves (a : PostMoves)
  | runRing (ring : Byte)
  | pauseRing (ring : Byte)
  | clearRing (ring : Byte)
  | cancelHead (ring : Byte)
  | readRing (a : ReadRing)
  | setDoor (a : SetDoor)
  | assignTrailer (a : AssignTrailer)
  | dock (door : Byte)
  | undock (door : Byte)
  | openDoor (door : Byte)
  | closeDoor (door : Byte)
  | serviceDoor (door : Byte)
  | returnDoor (door : Byte)
  | readDoor (door : Byte)
  | setDefrost (a : SetDefrost)
  | setSlots (limit : Byte)
  | readDefrost (zone : Byte)
  | requestDefrost (zone : Byte)
  | inhibitDefrost (zone : Byte)
  | restoreDefrost (zone : Byte)
  | setChannel (a : SetChannel)
  | readChannel (channel : Byte)
  | ackAlarm (a : AckAlarm)
  | ackAll
  | setMask (kind setting : Byte)
  | readAlarms (start : Byte)
  | takeHold (door force : Byte)
  | dropHold (door : Byte)
  | readHolds
  | putNote (text : List Byte)
  | takeNote
  | setTerminal (a : SetTerminal)
  | readNode (address : Byte)
  | setClock (time : Word)
  | readClock
  | commission (a : CommissionArgs)
  | identify
  | status
  | setNotices (groups : Byte)
  | restart
  deriving DecidableEq, Repr

/-- What a well-formed request frame turns out to be: a request of R215, a code that names no
request, or a known code whose body length R215 does not allow. -/
inductive Received where
  | known (r : Request)
  | unknownCode (code : Byte)
  | badLength (code : Byte)
  deriving DecidableEq, Repr

/-- The commands: the rows of spec/opcode_table.json in its order. -/
inductive Instr where
  /-- SET_ZONE, R2. -/
  | setZone (link : Link) (tag : Byte) (a : SetZone)
  /-- SET_PROBE, R5. -/
  | setProbe (link : Link) (tag : Byte) (a : SetProbe)
  /-- READ_ZONE, R17. -/
  | readZone (link : Link) (tag zone clear : Byte)
  /-- READ_PROBE, R18. -/
  | readProbe (link : Link) (tag probe : Byte)
  /-- SET_CLASS, R22. -/
  | setClass (link : Link) (tag : Byte) (a : SetClass)
  /-- READ_CLASS, R22. -/
  | readClass (link : Link) (tag cls : Byte)
  /-- ADMIT, R25. -/
  | admitPallets (link : Link) (tag : Byte) (a : Admit)
  /-- AMEND_PALLET, R39. -/
  | amendPallet (link : Link) (tag : Byte) (a : AmendPallet)
  /-- READ_PALLET, R41. -/
  | readPallet (link : Link) (tag : Byte) (pallet : Word)
  /-- LIST_PALLETS, R42. -/
  | listPallets (link : Link) (tag : Byte) (a : ListPallets)
  /-- RELEASE_PALLET, R43. -/
  | releasePallet (link : Link) (tag : Byte) (pallet : Word)
  /-- SET_LANE, R47. -/
  | setLane (link : Link) (tag : Byte) (a : SetLane)
  /-- BLOCK_LANE, R48. -/
  | blockLane (link : Link) (tag lane : Byte)
  /-- UNBLOCK_LANE, R48. -/
  | unblockLane (link : Link) (tag lane : Byte)
  /-- READ_LANE, R48. -/
  | readLane (link : Link) (tag lane : Byte)
  /-- POST_MOVES, R53. -/
  | postMoves (link : Link) (tag : Byte) (a : PostMoves)
  /-- RUN_RING, R56. -/
  | runRing (link : Link) (tag ring : Byte)
  /-- PAUSE_RING, R57. -/
  | pauseRing (link : Link) (tag ring : Byte)
  /-- CLEAR_RING, R58. -/
  | clearRing (link : Link) (tag ring : Byte)
  /-- CANCEL_HEAD, R59. -/
  | cancelHead (link : Link) (tag ring : Byte)
  /-- READ_RING, R61. -/
  | readRing (link : Link) (tag : Byte) (a : ReadRing)
  /-- SET_DOOR, R77. -/
  | setDoor (link : Link) (tag : Byte) (a : SetDoor)
  /-- ASSIGN_TRAILER, R85. -/
  | assignTrailer (link : Link) (tag : Byte) (a : AssignTrailer)
  /-- DOCK, R87. -/
  | dock (link : Link) (tag door : Byte)
  /-- UNDOCK, R88. -/
  | undock (link : Link) (tag door : Byte)
  /-- OPEN_DOOR, R89. -/
  | openDoor (link : Link) (tag door : Byte)
  /-- CLOSE_DOOR, R92. -/
  | closeDoor (link : Link) (tag door : Byte)
  /-- SERVICE_DOOR, R100. -/
  | serviceDoor (link : Link) (tag door : Byte)
  /-- RETURN_DOOR, R103. -/
  | returnDoor (link : Link) (tag door : Byte)
  /-- READ_DOOR, R106. -/
  | readDoor (link : Link) (tag door : Byte)
  /-- SET_DEFROST, R111. -/
  | setDefrost (link : Link) (tag : Byte) (a : SetDefrost)
  /-- SET_SLOTS, R117. -/
  | setSlots (link : Link) (tag limit : Byte)
  /-- READ_DEFROST, R112. -/
  | readDefrost (link : Link) (tag zone : Byte)
  /-- REQUEST_DEFROST, R115. -/
  | requestDefrost (link : Link) (tag zone : Byte)
  /-- INHIBIT_DEFROST, R129. -/
  | inhibitDefrost (link : Link) (tag zone : Byte)
  /-- RESTORE_DEFROST, R130. -/
  | restoreDefrost (link : Link) (tag zone : Byte)
  /-- SET_CHANNEL, R137. -/
  | setChannel (link : Link) (tag : Byte) (a : SetChannel)
  /-- READ_CHANNEL, R145. -/
  | readChannel (link : Link) (tag channel : Byte)
  /-- ACK_ALARM, R155. -/
  | ackAlarm (link : Link) (tag : Byte) (a : AckAlarm)
  /-- ACK_ALL, R156. -/
  | ackAll (link : Link) (tag : Byte)
  /-- SET_MASK, R158. -/
  | setMask (link : Link) (tag kind setting : Byte)
  /-- READ_ALARMS, R160. -/
  | readAlarms (link : Link) (tag start : Byte)
  /-- TAKE_HOLD, R164: a FORCE byte other than 1. -/
  | takeHold (link : Link) (tag door force : Byte)
  /-- TAKE_HOLD with FORCE given, R165. -/
  | takeHoldForce (link : Link) (tag door : Byte)
  /-- DROP_HOLD, R166. -/
  | dropHold (link : Link) (tag door : Byte)
  /-- READ_HOLDS, R171. -/
  | readHolds (link : Link) (tag : Byte)
  /-- PUT_NOTE, R173. -/
  | putNote (link : Link) (tag : Byte) (text : List Byte)
  /-- TAKE_NOTE, R174. -/
  | takeNote (link : Link) (tag : Byte)
  /-- SET_TERMINAL, R179. -/
  | setTerminal (link : Link) (tag : Byte) (a : SetTerminal)
  /-- READ_NODE, R190. -/
  | readNode (link : Link) (tag address : Byte)
  /-- SET_CLOCK, R192. -/
  | setClock (link : Link) (tag : Byte) (time : Word)
  /-- READ_CLOCK, R192. -/
  | readClock (link : Link) (tag : Byte)
  /-- COMMISSION, R208. -/
  | commission (link : Link) (tag : Byte) (a : CommissionArgs)
  /-- IDENTIFY, R209. -/
  | identify (link : Link) (tag : Byte)
  /-- STATUS, R210. -/
  | status (link : Link) (tag : Byte)
  /-- SET_NOTICES, R205. -/
  | setNotices (link : Link) (tag groups : Byte)
  /-- RESTART, R211. -/
  | restart (link : Link) (tag : Byte)
  /-- A request whose code names no request, R201. -/
  | unknownRequest (link : Link) (tag code : Byte) (body : List Byte)
  /-- The frame assembled by a link's receiver is complete, R196. -/
  | frameComplete (link : Link)
  /-- A gap of more than 20 ms inside a frame, R196. -/
  | interByteGapTimeout (link : Link)
  /-- A link transmitter finishes its frame, R203. -/
  | frameSent (link : Link)
  /-- The supply rises or the reset line is asserted, R213. -/
  | powerOnReset
  /-- The plant-stop line has been held asserted for 20 ms, R143. -/
  | plantStopAssertion
  /-- The plant-stop line has been held released for 20 ms, R144. -/
  | plantStopRelease
  /-- The end of a second, R191. -/
  | runningSecondsTick
  /-- FL sends the next poll, R180. -/
  | poll
  /-- A reply arrives in the present transaction, R183; `inWindow` says whether it was complete
  within the reply window. -/
  | nodeReply (bytes : List Byte) (inWindow : Bool)
  /-- The reply window expires with no reply begun, R183, R186. -/
  | replyWindowExpiry
  /-- R7. -/
  | stalenessTimerExpiry (probe : Fin 32)
  /-- R8. -/
  | refreshTimerExpiry (zone : Fin 8)
  /-- R14. -/
  | warmDelayExpiry (zone : Fin 8)
  /-- R15. -/
  | coldDelayExpiry (zone : Fin 8)
  /-- R70: the PICKED head of a ring. -/
  | allowanceTimerExpiry (ring : Fin 20)
  /-- R87. -/
  | inflateTimerExpiry (door : Fin 16)
  /-- R88. -/
  | deflateTimerExpiry (door : Fin 16)
  /-- R97. -/
  | travelTimerExpiry (door : Fin 16)
  /-- R90. -/
  | recloseTimerExpiry (door : Fin 16)
  /-- R94. -/
  | closeWaitExpiry (door : Fin 16)
  /-- R98. -/
  | leakGraceExpiry (door : Fin 16)
  /-- R114. -/
  | intervalTimerExpiry (zone : Fin 8)
  /-- R121. -/
  | deferralTimerExpiry (zone : Fin 8)
  /-- R124. -/
  | durationTimerExpiry (zone : Fin 8)
  /-- R125. -/
  | dripTimerExpiry (zone : Fin 8)
  /-- R127. -/
  | recoveryTimerExpiry (zone : Fin 8)
  /-- R141. -/
  | mismatchTimerExpiry (channel : Fin 48)
  /-- A byte arrives on a link, with or without its stop bit, R196. -/
  | byteReceived (link : Link) (byte : Byte) (stopBit : Bool)
  /-- The reset line is released and power-on reset ends, R213. -/
  | resetLineRelease
  deriving DecidableEq, Repr

end Sys2Proof
end

