-- ==== Sys2Proof/Machine/Bytes.lean ====
section
/-! DEFINITION. Byte order, two's complement and the CRC (Chapter 11: R214, R216). -/

namespace Sys2Proof.Machine

/-- A number in one byte. -/
def byteOf (n : Nat) : Byte := BitVec.ofNat 8 n

/-- A flag byte with one defined flag, or a presence byte (R216). -/
def flagByte (b : Bool) : Byte := if b then 1 else 0

/-- R216: a two-byte field, most significant byte first. -/
def halfBytes (h : Half) : List Byte := [h.extractLsb' 8 8, h.extractLsb' 0 8]

/-- R216: a four-byte field, most significant byte first. -/
def wordBytes (w : Word) : List Byte :=
  [w.extractLsb' 24 8, w.extractLsb' 16 8, w.extractLsb' 8 8, w.extractLsb' 0 8]

/-- A number in two bytes. -/
def numBytes2 (n : Nat) : List Byte := halfBytes (BitVec.ofNat 16 n)

/-- A number in four bytes. -/
def numBytes4 (n : Nat) : List Byte := wordBytes (BitVec.ofNat 32 n)

/-- R216: a temperature, in two's complement. -/
def tempBytes (t : Int) : List Byte := halfBytes (BitVec.ofInt 16 t)

/-- Two received bytes as one field. -/
def toHalf (b1 b0 : Byte) : Half := b1 ++ b0

/-- Four received bytes as one field. -/
def toWord (b3 b2 b1 b0 : Byte) : Word := (b3 ++ b2) ++ (b1 ++ b0)

/-- R214: one shift of the CRC register. -/
def crcShift (r : Half) : Half := if r.msb then (r <<< 1) ^^^ 0x1021 else r <<< 1

/-- R214: one byte taken into the CRC register. -/
def crcByte (r : Half) (b : Byte) : Half := crcShift^[8] (r ^^^ (b ++ (0 : Byte)))

/-- R214: the CRC over a string of bytes. -/
def crc (bytes : List Byte) : Half := bytes.foldl crcByte 0xFFFF

end Sys2Proof.Machine
end

