-- ==== Sys2Proof/Config.lean ====
section
/-! DEFINITION. What is fixed for every XD16 (capacities, identity values, fixed timer lengths) and the
free values: the bytes that a layout of Chapter 11 carries without the spec saying what they hold. -/

namespace Sys2Proof.Config

/-- FREE VALUE. The byte sent in a place for which the spec states no value (notes/assumptions/3.md).
`place` names the field and `running` is the running second at which the frame is built. It has no
body, so no statement can rest on its value. -/
opaque unstatedByte (place : Nat) (running : Nat) : Byte

/-- R209, R218: the identity values carried by IDENTIFY. -/
def vendorCode : Nat := 0x0B41
/-- R218. -/
def partCode : Nat := 0x5816
/-- R218. -/
def siliconRevision : Nat := 3

/-- R191: running seconds holds at its largest value. -/
def runningMax : Nat := 4294967295

/-- R4: the staleness timer, in seconds. -/
def stalenessTime : Nat := 120
/-- R1: the refresh timer, in seconds. -/
def refreshTime : Nat := 60
/-- R79: the reclose timer, in seconds. -/
def recloseTime : Nat := 5
/-- R79: the deflate timer, in seconds. -/
def deflateTime : Nat := 20

/-- R31 step 1: the longest interval that one accrual charges, in seconds. -/
def accrualClamp : Nat := 900
/-- R31 step 4: units of residue in one DDM. -/
def unitsPerDdm : Nat := 960
/-- R23: the largest exposure, and R109: the largest frost load. -/
def wordMax : Nat := 65535

/-- R24: slots of the pallet table. -/
def palletSlots : Nat := 1024
/-- R50: positions of a ring. -/
def ringSize : Nat := 32
/-- R148: ordinary positions of the alarm list. -/
def alarmPositions : Nat := 47
/-- R148: the repeat count holds here. -/
def repeatMax : Nat := 255
/-- R195: notices in one link's queue. -/
def noticePlaces : Nat := 32
/-- R195: places of one link's input buffer, and also its waiting OVERRUN replies (R198). -/
def bufferPlaces : Nat := 2
/-- R214: the start byte of every link frame. -/
def startByte : Byte := 0xC5
/-- R172: bytes of one note at most. -/
def noteBytes : Nat := 64
/-- R214: bytes of one frame body at most. -/
def bodyBytes : Nat := 250

end Sys2Proof.Config
end

