-- ==== Sys2Proof/Machine/State.lean ====
section
/-! DEFINITION. The state of the XD16, block by block, and the state right after power-on reset.
`Dock` holds the records of the blocks ZM, PT, ME, DS, DC, OC, AL, FL, the commissioning record and the
notice end of each link. `State` adds what the Link Interface and the Hold Table keep beside it, the
field loop's transaction, the lines and the queue of waiting commands. -/

namespace Sys2Proof.Machine

/-! ### Zone Monitor (R1, R4) -/

inductive ZoneKind where
  | frozenRoom
  | dock
  deriving DecidableEq, Repr

inductive Rounding where
  | towardWarm
  | towardCold
  | nearestEven
  deriving DecidableEq, Repr

inductive TempStatus where
  | valid
  | substituted
  deriving DecidableEq, Repr

/-- R14, R15: a watch; the delay timer runs only in TIMING, from `start`. -/
inductive Watch where
  | quiet
  | timing (start : Nat)
  | raised
  deriving DecidableEq, Repr

/-- R1. The bound-probe list is the probes whose record is bound to the zone (R4). -/
structure Zone where
  kind : ZoneKind := .frozenRoom
  setPoint : Int := -250
  highLimit : Int := -180
  lowLimit : Int := -320
  alarmDelay : Nat := 300
  rounding : Rounding := .towardWarm
  tz : Int := -180
  tempStatus : TempStatus := .substituted
  inexact : Bool := false
  lastUpdate : Nat := 0
  warm : Watch := .quiet
  cold : Watch := .quiet
  /-- The refresh timer: running from this second, or stopped. -/
  refresh : Option Nat := none
  deriving DecidableEq, Repr

inductive ProbeStatus where
  | ok
  | outOfRange
  | stale
  | unbound
  deriving DecidableEq, Repr

/-- R4. The staleness timer runs from `readTime` exactly while the status is OK or OUT_OF_RANGE (R7). -/
structure Probe where
  bound : Option (Fin 8) := none
  offset : Int := 0
  raw : Int := 0
  readTime : Nat := 0
  status : ProbeStatus := .unbound
  deriving DecidableEq, Repr

/-! ### Pallet Table (R21, R23) -/

/-- R21. -/
structure PalletClass where
  limit : Int := -180
  weight : Nat := 16
  budget : Nat := 600
  warn : Nat := 192
  deriving DecidableEq, Repr

/-- The locations that a descriptor or a terminal can name (R51, R177). -/
inductive Spot where
  | trailer (door : Fin 16)
  | lane (lane : Fin 24)
  | room (zone : Fin 8)
  deriving DecidableEq, Repr

/-- A pallet's location (R23); the descriptor reference is part of TRANSIT. -/
inductive Loc where
  | at (spot : Spot)
  | transit (ring : Fin 20) (position : Fin 32)
  | adrift
  | departed
  deriving DecidableEq, Repr

inductive Grade where
  | ok
  | warn
  | spent
  deriving DecidableEq, Repr

/-- R23. -/
structure Pallet where
  tag : Word
  cls : Fin 8
  budget : Nat
  exposure : Nat
  residue : Nat
  stamp : Nat
  loc : Loc
  grade : Grade
  quarantine : Bool
  saturated : Bool
  substituted : Bool
  revision : Half
  deriving DecidableEq, Repr

/-! ### Move Engine (R46, R50, R51) -/

inductive LaneState where
  | enabled
  | blocked
  deriving DecidableEq, Repr

/-- R46. -/
structure Lane where
  zone : Fin 8 := 0
  capacity : Nat := 0
  occupied : Nat := 0
  reserved : Nat := 0
  state : LaneState := .enabled
  deriving DecidableEq, Repr

inductive MoveStatus where
  | pending
  | picked
  | placed
  | cancelled
  | failed
  deriving DecidableEq, Repr

/-- R51. The allowance timer runs from `pickTime` while the status is PICKED and OVERDUE is clear. -/
structure Descriptor where
  tag : Word
  source : Spot
  dest : Spot
  notify : Bool
  allowance : Nat
  status : MoveStatus
  overdue : Bool
  pickTime : Option Nat
  deriving DecidableEq, Repr

inductive RingState where
  | run
  | paused
  | halted
  deriving DecidableEq, Repr

/-- R63, R66: the verdicts, in the order of R216. -/
inductive Verdict where
  | accept
  | held
  | notHead
  | ringPaused
  | wrongSource
  | quarantined
  | doorClosing
  | doorNotOpen
  | gateClosed
  | destBlocked
  | destFull
  | notInTransit
  | wrongPlace
  deriving DecidableEq, Repr

/-- R50: the last refusal of a ring. -/
structure LastRefusal where
  verdict : Verdict
  tag : Word
  terminal : Fin 24
  deriving DecidableEq, Repr

/-- R50: the last finished descriptor with the position it held. -/
structure Finished where
  position : Fin 32
  move : Descriptor
  deriving DecidableEq, Repr

/-- R50. The waiting count is the length of `waiting` and the tail index follows from head and count. -/
structure Ring where
  head : Fin 32 := 0
  waiting : List Descriptor := []
  state : RingState := .halted
  drained : Bool := false
  unplanned : Bool := false
  lastRefusal : Option LastRefusal := none
  lastFinished : Option Finished := none
  deriving DecidableEq, Repr

/-! ### Door Sequencer (R76, R78, R79) -/

/-- R78: an inbound trailer part has no capacity and no counts. -/
inductive Direction where
  | inbound
  | outbound (capacity loaded reserved : Nat)
  deriving DecidableEq, Repr

/-- R78. -/
structure Trailer where
  id : Word
  direction : Direction
  deriving DecidableEq, Repr

/-- R80: the fourteen door states, in the order of its table. -/
inductive DoorState where
  | vacant
  | arrived
  | assigned
  | inflating
  | sealed
  | opening
  | open
  | closePending
  | closing
  | deflating
  | released
  | fault
  | outOfService
  | resync
  deriving DecidableEq, Repr

inductive Position where
  | closed
  | open
  | between
  deriving DecidableEq, Repr

/-- R79: the six timers of a door; each is stopped or running from a second. -/
structure DoorTimers where
  inflate : Option Nat := none
  travel : Option Nat := none
  reclose : Option Nat := none
  closeWait : Option Nat := none
  leakGrace : Option Nat := none
  deflate : Option Nat := none
  deriving DecidableEq, Repr

/-- R76: the configuration part. -/
structure DoorConfig where
  dockZone : Option (Fin 8) := none
  weight : Nat := 4
  hold : Nat := 600
  low : Nat := 400
  release : Nat := 100
  inflateTimeout : Nat := 45
  travelTimeout : Nat := 25
  leakGrace : Nat := 8
  closeWait : Nat := 120
  deriving DecidableEq, Repr

/-- R76, R78, R79. -/
structure Door where
  config : DoorConfig := {}
  trailer : Option Trailer := none
  state : DoorState := .vacant
  presence : Bool := false
  pressure : Nat := 0
  position : Position := .closed
  closeRequested : Bool := false
  retry : Nat := 0
  sealLost : Bool := false
  through : Nat := 0
  openStamp : Nat := 0
  timers : DoorTimers := {}
  deriving DecidableEq, Repr

/-! ### Defrost Controller (R110, R118) -/

/-- R113. -/
inductive Phase where
  | cooling
  | due
  | holding
  | defrosting
  | dripping
  | recovery
  | inhibited
  deriving DecidableEq, Repr

/-- R119. -/
inductive Gate where
  | open
  | closed
  deriving DecidableEq, Repr

/-- R110: the eight configuration fields. -/
structure DefrostConfig where
  threshold : Nat := 18000
  maxInterval : Nat := 28800
  quantum : Nat := 20
  termination : Int := 120
  maxDuration : Nat := 1500
  dripTime : Nat := 180
  recoveryTimeout : Nat := 1200
  maxDeferral : Nat := 1800
  deriving DecidableEq, Repr

/-- R110. The interval timer, while `interval` is set, expires at last end plus the maximum interval. -/
structure Defrost where
  config : DefrostConfig := {}
  frost : Nat := 0
  lastEnd : Nat := 0
  phase : Phase := .cooling
  gate : Gate := .open
  slot : Bool := false
  forcing : Bool := false
  aborted : Bool := false
  moves : Nat := 0
  openDoors : Nat := 0
  coil : Option Int := none
  interval : Bool := false
  deferral : Option Nat := none
  duration : Option Nat := none
  drip : Option Nat := none
  recovery : Option Nat := none
  /-- R132: set by a warm restart until the zone's first update after it. -/
  awaitingUpdate : Bool := false
  deriving DecidableEq, Repr

/-! ### Output Channels (R133, R134) -/

/-- R133: the levels of all four kinds. -/
inductive Level where
  | off
  | on
  | stop
  | open
  | close
  deriving DecidableEq, Repr

inductive Owner where
  | sequencer
  | manual
  deriving DecidableEq, Repr

/-- R134: the raised kind, present only in RAISED. -/
inductive RaisedKind where
  | mismatch
  | heaterStuck
  deriving DecidableEq, Repr

/-- R134: the check state; the mismatch timer runs only in TIMING, from `start`. -/
inductive Check where
  | agree
  | timing (start : Nat)
  | raised (kind : RaisedKind)
  | suspended
  deriving DecidableEq, Repr

/-- R134. -/
structure Channel where
  latch : Level
  owner : Owner := .sequencer
  armed : Bool := false
  effective : Level
  feedback : Option Level := none
  check : Check := .agree
  deriving DecidableEq, Repr

/-! ### Alarm List (R148, R149, R158) -/

/-- R149: the 23 kinds, in the order of its table. -/
inductive AlarmKind where
  | zoneWarm
  | zoneCold
  | probesLost
  | probeFault
  | sealFailed
  | sealLost
  | doorTravel
  | doorObstructed
  | doorForced
  | trailerLeft
  | closeForced
  | moveOverdue
  | unplannedScan
  | exposureSpent
  | defrostOverrun
  | recoveryLate
  | defrostForced
  | defrostAborted
  | outputMismatch
  | heaterStuck
  | nodeLost
  | plantStop
  | listOverflow
  deriving DecidableEq, Repr

/-- What an alarm concerns (00_scope.md, Subjects). A node is held as its address less 1. -/
inductive Subject where
  | site
  | door (d : Fin 16)
  | zone (z : Fin 8)
  | probe (p : Fin 32)
  | ring (r : Fin 20)
  | pallet (tag : Word)
  | channel (c : Fin 48)
  | node (n : Fin 48)
  | terminal (t : Fin 24)
  deriving DecidableEq, Repr

inductive AlarmState where
  | activeUnack
  | activeAck
  | clearedUnack
  deriving DecidableEq, Repr

/-- R148. Both times are site times. -/
structure AlarmEntry where
  kind : AlarmKind
  subject : Subject
  first : Word
  last : Word
  repeats : Nat
  state : AlarmState
  deriving DecidableEq, Repr

/-- R158. -/
inductive MaskSetting where
  | loud
  | quiet
  deriving DecidableEq, Repr

/-! ### Notices (R204, R206, R219) -/

inductive AlarmChange where
  | raised
  | conditionCleared
  | acknowledged
  deriving DecidableEq, Repr

inductive ScanKind where
  | pick
  | place
  deriving DecidableEq, Repr

inductive HoldLostReason where
  | taken
  | pendingDropped
  deriving DecidableEq, Repr

/-- R219: the twelve notices with the content that each takes at its creation. Times are site times. -/
inductive Notice where
  | doorState (door : Fin 16) (old new : DoorState) (through : Nat) (time : Word)
  | pickRefused (terminal : Fin 24) (scan : ScanKind) (tag : Word) (verdict : Verdict)
      (ring : Option (Fin 20)) (time : Word)
  | moveDone (ring : Fin 20) (position : Fin 32) (tag : Word) (source dest : Spot)
      (pickTime placeTime : Word) (overdue : Bool)
  | ringDrained (ring : Fin 20) (time : Word)
  | palletGrade (tag : Word) (slot : Nat) (old new : Grade) (exposure budget : Nat) (loc : Loc)
      (revision : Half) (time : Word)
  | defrostPhase (zone : Fin 8) (old new : Phase) (frost : Nat) (forcing aborted : Bool) (time : Word)
  | alarmChange (kind : AlarmKind) (subject : Subject) (change : AlarmChange)
      (state : Option AlarmState) (repeats : Nat) (first last : Word) (by_ : Option Link) (time : Word)
  | holdGranted (door : Fin 16) (holder pending : Option Link) (time : Word)
  | holdLost (door : Fin 16) (holder pending : Option Link) (reason : HoldLostReason) (time : Word)
  | noteWaiting (length : Nat) (time : Word)
  | noteTaken (length : Nat) (time : Word)
  | zoneStatus (zone : Fin 8) (status : TempStatus) (tz : Int) (time : Word)
  deriving DecidableEq, Repr

/-- R204: the seven groups. -/
inductive Group where
  | door
  | move
  | pallet
  | defrost
  | alarm
  | hold
  | zone
  deriving DecidableEq, Repr

/-- R206: a queued notice and the sequence number it took. -/
structure QueuedNotice where
  sequence : Byte
  notice : Notice
  deriving DecidableEq, Repr

/-- The notice end of one link (R195): subscription set (bits as R217), queue, flag, next number. -/
structure NoticeEnd where
  groups : BitVec 7 := 0
  queue : List QueuedNotice := []
  dropped : Bool := false
  sequence : Byte := 0
  deriving DecidableEq, Repr

/-! ### Field Loop Master (R177) -/

inductive NodeStatus where
  | notFitted
  | online
  | lost
  deriving DecidableEq, Repr

/-- R177. Only terminals have a binding, a last verdict and a verdict count. -/
structure Node where
  status : NodeStatus := .notFitted
  misses : Nat := 0
  binding : Option Spot := none
  verdict : Option (Verdict × Word) := none
  verdictCount : Byte := 0
  deriving DecidableEq, Repr

/-- R180: the transaction in progress, with the poll that began it. -/
structure Transaction where
  node : Fin 48
  poll : List Byte
  deriving DecidableEq, Repr

/-! ### Link Interface and Hold Table (R163, R195, R208) -/

/-- R208. -/
structure Commissioning where
  done : Bool := false
  siteNumber : Nat := 0
  doors : Nat := 0
  zones : Nat := 0
  deriving DecidableEq, Repr

/-- R163. -/
structure Hold where
  holder : Option Link := none
  pending : Option Link := none
  deriving DecidableEq, Repr

/-- R198: a place of the input buffer holds the request that took it. -/
structure Place where
  tag : Byte
  received : Received
  deriving DecidableEq, Repr

/-- A reply made ready and not yet begun (R203); `overrun` marks a waiting OVERRUN reply (R198). -/
structure ReadyReply where
  overrun : Bool
  code : Byte
  tag : Byte
  body : List Byte
  deriving DecidableEq, Repr

inductive SendKind where
  | reply
  | overrun
  | notice
  deriving DecidableEq, Repr

/-- R203: the frame being sent, from its start byte to its last CRC byte. -/
structure Sending where
  kind : SendKind
  frame : List Byte
  deriving DecidableEq, Repr

/-- The frame end of one link (R195, R196, R203). -/
structure LinkEnd where
  /-- R196: the bytes of the frame being assembled, its start byte first; empty while hunting. -/
  receiver : List Byte := []
  places : List Place := []
  replies : List ReadyReply := []
  sending : Option Sending := none
  deriving DecidableEq, Repr

/-! ### The whole part -/

/-- The records of the dock, the clocks, the alarm list and the notice ends. -/
structure Dock where
  commissioning : Commissioning
  /-- R191. -/
  running : Nat
  /-- R192. -/
  offset : Word
  zones : Table Zone 8
  probes : Table Probe 32
  classes : Table PalletClass 8
  /-- R24: the occupied slots with their records, in slot order. -/
  pallets : List (Nat × Pallet)
  lanes : Table Lane 24
  rings : Table Ring 20
  doors : Table Door 16
  defrosts : Table Defrost 8
  /-- R110: the slot limit. -/
  slotLimit : Nat
  /-- R118: for the move in flight of each ring, the zones whose counts its pick raised. -/
  flights : Table (List (Fin 8)) 20
  channels : Table Channel 48
  /-- R143: the plant-stop state; true is ASSERTED. -/
  plantStop : Bool
  /-- R148: the ordinary entries, oldest first. -/
  alarms : List AlarmEntry
  /-- R148: the reserved entry. -/
  overflow : Option AlarmEntry
  /-- R158, in the order of R149. -/
  mask : Table MaskSetting 23
  /-- R159: true is asserted. -/
  alarmLine : Bool
  /-- R177, by address less 1. -/
  nodes : Table Node 48
  siteNotices : NoticeEnd
  floorNotices : NoticeEnd
  deriving DecidableEq, Repr

/-- The state of the XD16 and the queue of the commands that wait. -/
structure State where
  dock : Dock
  /-- R163. -/
  holds : Table Hold 16
  /-- R172: the toward-floor slot. -/
  noteToFloor : Option (List Byte)
  /-- R172: the toward-site slot. -/
  noteToSite : Option (List Byte)
  site : LinkEnd
  floor : LinkEnd
  /-- R195: the warm-restart count. -/
  restarts : Half
  /-- R180: the address (less 1) polled last; none before the first poll of a cycle from the lowest. -/
  lastPolled : Option (Fin 48)
  transaction : Option Transaction
  /-- The level of the plant-stop line last held for 20 ms (R143, R146); true is asserted. -/
  plantLine : Bool
  /-- R213: power-on reset is being performed. -/
  inReset : Bool
  /-- THE MODEL'S OWN: the commands that wait, first in, first out. -/
  pending : List Instr
  deriving DecidableEq, Repr

/-- No command of this block faults: the spec answers every one. -/
inductive Fault where
  deriving DecidableEq, Repr

/-- Why a command has no outcome. -/
inductive Refusal where
  /-- Raised by exec's own arm for a command whose meaning is not written yet. Safe: no state follows. -/
  | notModelled (mnemonic : String)
  deriving DecidableEq, Repr

/-- R133, R134: the power-on record of a channel; channels 1, 3, … 31 are drives. -/
def resetChannel (c : Fin 48) : Channel :=
  if c.val < 32 && c.val % 2 == 1 then { latch := .stop, effective := .stop }
  else { latch := .off, effective := .off }

/-- The power-on values of the dock's records (R19, R44, R74, R107, R131, R146, R161, R193, R195). -/
def Dock.reset : Dock where
  commissioning := {}
  running := 0
  offset := 0
  zones := Vector.replicate 8 {}
  probes := Vector.replicate 32 {}
  classes := Vector.replicate 8 {}
  pallets := []
  lanes := Vector.replicate 24 {}
  rings := Vector.replicate 20 {}
  doors := Vector.replicate 16 {}
  defrosts := Vector.replicate 8 {}
  slotLimit := 2
  flights := Vector.replicate 20 []
  channels := Vector.ofFn resetChannel
  plantStop := false
  alarms := []
  overflow := none
  mask := Vector.replicate 23 .loud
  alarmLine := false
  nodes := Vector.replicate 48 {}
  siteNotices := {}
  floorNotices := {}

/-- The machine right after power-on reset has ended with the plant-stop line released
(R213, R146; the level of the line is a DESIGN CHOICE, notes/assumptions/1.md). -/
def State.reset : State where
  dock := Dock.reset
  holds := Vector.replicate 16 {}
  noteToFloor := none
  noteToSite := none
  site := {}
  floor := {}
  restarts := 0
  lastPolled := none
  transaction := none
  plantLine := false
  inReset := false
  pending := []

end Sys2Proof.Machine
end

