-- ==== Sys2Proof/Machine/Ops.lean ====
section
/-! DEFINITION. The shared operations on tables, the clocks, fitting, timers and notices that every
block uses. -/

namespace Sys2Proof.Machine

/-! ### Tables -/

/-- The table with record `i` replaced by `f` of it. -/
def tmod {α : Type} {n : Nat} (t : Table α n) (i : Fin n) (f : α → α) : Table α n :=
  t.set i.val (f t[i]) i.isLt

namespace Dock

def modZone (k : Dock) (z : Fin 8) (f : Zone → Zone) : Dock := { k with zones := tmod k.zones z f }
def modProbe (k : Dock) (p : Fin 32) (f : Probe → Probe) : Dock :=
  { k with probes := tmod k.probes p f }
def modLane (k : Dock) (l : Fin 24) (f : Lane → Lane) : Dock := { k with lanes := tmod k.lanes l f }
def modRing (k : Dock) (r : Fin 20) (f : Ring → Ring) : Dock := { k with rings := tmod k.rings r f }
def modDoor (k : Dock) (d : Fin 16) (f : Door → Door) : Dock := { k with doors := tmod k.doors d f }
def modDefrost (k : Dock) (z : Fin 8) (f : Defrost → Defrost) : Dock :=
  { k with defrosts := tmod k.defrosts z f }
def modChannel (k : Dock) (c : Fin 48) (f : Channel → Channel) : Dock :=
  { k with channels := tmod k.channels c f }
def modNode (k : Dock) (n : Fin 48) (f : Node → Node) : Dock := { k with nodes := tmod k.nodes n f }

/-! ### The clocks (R191, R192) -/

/-- R192: the site time of a value of running seconds, in 32-bit wrapping arithmetic. -/
def siteOf (k : Dock) (t : Nat) : Word := BitVec.ofNat 32 t + k.offset

/-- R192: site time now. -/
def siteTime (k : Dock) : Word := k.siteOf k.running

/-- R191: the end of a second; the count holds at its largest value. -/
def tick (k : Dock) : Dock := { k with running := min (k.running + 1) Config.runningMax }

/-- R191: a timer running from `start` with a length has expired when that many seconds have passed. -/
def due (k : Dock) (start : Option Nat) (length : Nat) : Bool :=
  match start with
  | none => false
  | some s => decide (s + length ≤ k.running)

/-! ### Fitting (R208, R46, R177) -/

def doorFitted (k : Dock) (d : Fin 16) : Bool := decide (d.val < k.commissioning.doors)
def zoneFitted (k : Dock) (z : Fin 8) : Bool := decide (z.val < k.commissioning.zones)
/-- R46: a lane with capacity 0 is not fitted. -/
def laneFitted (k : Dock) (l : Fin 24) : Bool := decide (k.lanes[l].capacity ≠ 0)
/-- R177: a node is fitted while ONLINE or LOST. -/
def nodeFitted (k : Dock) (n : Fin 48) : Bool := decide (k.nodes[n].status ≠ .notFitted)
/-- Whether the door, lane or zone that a location names is fitted. -/
def spotFitted (k : Dock) : Spot → Bool
  | .trailer d => k.doorFitted d
  | .lane l => k.laneFitted l
  | .room z => k.zoneFitted z

/-! ### Notices (R204, R206) -/

def noticeEnd (k : Dock) : Link → NoticeEnd
  | .site => k.siteNotices
  | .floor => k.floorNotices

def modNoticeEnd (k : Dock) (l : Link) (f : NoticeEnd → NoticeEnd) : Dock :=
  match l with
  | .site => { k with siteNotices := f k.siteNotices }
  | .floor => { k with floorNotices := f k.floorNotices }

end Dock

/-- R217: the bit of a group in a subscription set. -/
def Group.bit : Group → Nat
  | .door => 0
  | .move => 1
  | .pallet => 2
  | .defrost => 3
  | .alarm => 4
  | .hold => 5
  | .zone => 6

/-- R204: the group of a notice. -/
def Notice.group : Notice → Group
  | .doorState .. => .door
  | .pickRefused .. => .move
  | .moveDone .. => .move
  | .ringDrained .. => .move
  | .palletGrade .. => .pallet
  | .defrostPhase .. => .defrost
  | .alarmChange .. => .alarm
  | .holdGranted .. => .hold
  | .holdLost .. => .hold
  | .noteWaiting .. => .hold
  | .noteTaken .. => .hold
  | .zoneStatus .. => .zone

/-- R205: whether the link receives the notices of a group. -/
def NoticeEnd.subscribed (e : NoticeEnd) (g : Group) : Bool := e.groups.getLsbD g.bit

/-- R206: a notice created for a link takes the next sequence number and joins the queue, or is
dropped when 32 wait. -/
def NoticeEnd.create (e : NoticeEnd) (n : Notice) : NoticeEnd :=
  if e.queue.length < Config.noticePlaces then
    { e with queue := e.queue ++ [{ sequence := e.sequence, notice := n }], sequence := e.sequence + 1 }
  else { e with dropped := true, sequence := e.sequence + 1 }

/-- R204: no notice is created for a link that does not subscribe to its group. -/
def NoticeEnd.offer (e : NoticeEnd) (n : Notice) : NoticeEnd :=
  if e.subscribed n.group then e.create n else e

/-- R204: a notice addressed to one link. -/
def Dock.notifyLink (k : Dock) (l : Link) (n : Notice) : Dock := k.modNoticeEnd l (·.offer n)

/-- R204: a notice sent to every subscribed link. -/
def Dock.notify (k : Dock) (n : Notice) : Dock := (k.notifyLink .site n).notifyLink .floor n

/-- The other link. -/
def otherLink : Link → Link
  | .site => .floor
  | .floor => .site

end Sys2Proof.Machine
end

