-- ==== Sys2Proof/Machine/Flags.lean ====
section
/-! DEFINITION. The pure computations: the mean and INEXACT, the accrual arithmetic, the grade, the
effective level, the kind of a disagreement, the character of an alarm kind and the alarm line. -/

namespace Sys2Proof.Machine

/-! ### Zone temperature (R10, R11) -/

/-- R10: one probe's contribution. -/
def contribution (p : Probe) : Int := max (-500) (min 500 (p.raw + p.offset))

/-- R11: the mean `s / n` rounded by the zone's mode, for `n` at least 1. -/
def roundedMean (mode : Rounding) (s : Int) (n : Nat) : Int :=
  let low := s / n
  let rest := s % n
  match mode with
  | .towardWarm => if rest = 0 then low else low + 1
  | .towardCold => low
  | .nearestEven =>
    if 2 * rest < n then low
    else if (n : Int) < 2 * rest then low + 1
    else if low % 2 = 0 then low else low + 1

/-- R11: the mean is inexact. -/
def meanInexact (s : Int) (n : Nat) : Bool := decide (s % n ≠ 0)

/-! ### Accrual and grade (R31, R32) -/

/-- R27: a source temperature and whether it counts as substituted. -/
structure Source where
  temp : Int
  substituted : Bool
  deriving DecidableEq, Repr

/-- R31 step 2. -/
def excess (src : Option Source) (c : PalletClass) : Nat :=
  match src with
  | none => 0
  | some t => (t.temp - c.limit).toNat

/-- R31 steps 1 to 7: the record charged up to `now`. -/
def accrueRecord (src : Option Source) (c : PalletClass) (now : Nat) (p : Pallet) : Pallet :=
  let dt := min Config.accrualClamp (now - p.stamp)
  let e := excess src c
  let n := p.residue + e * dt * c.weight
  let q := n / Config.unitsPerDdm
  let full := decide (Config.wordMax < p.exposure + q)
  let marked := match src with
    | none => false
    | some t => t.substituted && decide (0 < e)
  { p with
    exposure := if full then Config.wordMax else p.exposure + q
    residue := if full then 0 else n % Config.unitsPerDdm
    saturated := p.saturated || full
    stamp := now
    substituted := p.substituted || marked }

/-- R32: the grade, from X, B and the warning fraction. -/
def gradeOf (x b warn : Nat) : Grade :=
  if b ≤ x then .spent else if b * warn ≤ x * 256 then .warn else .ok

/-! ### Output channels (R133, R135, R140) -/

/-- R133: the four kinds of channel. -/
inductive ChannelKind where
  | blower
  | drive
  | heater
  | fans
  deriving DecidableEq, Repr

/-- R133. -/
def channelKind (c : Fin 48) : ChannelKind :=
  if c.val < 32 then (if c.val % 2 = 0 then .blower else .drive)
  else (if c.val % 2 = 0 then .heater else .fans)

/-- R133. -/
def ChannelKind.safe : ChannelKind → Level
  | .drive => .stop
  | _ => .off

/-- R133: forced by plant stop. -/
def ChannelKind.forced : ChannelKind → Bool
  | .drive => true
  | .heater => true
  | _ => false

/-- R133: the feedback grace in seconds. -/
def ChannelKind.grace : ChannelKind → Nat
  | .drive => 5
  | .blower => 10
  | .heater => 30
  | .fans => 30

/-- R135. -/
def effectiveLevel (kind : ChannelKind) (latch : Level) (armed plantStop : Bool) : Level :=
  if armed = false ∨ (plantStop = true ∧ kind.forced = true) then kind.safe else latch

/-- R140, R141: the kind of a disagreement between a feedback and an effective level. -/
def disagreement (kind : ChannelKind) (feedback : Option Level) (effective : Level) : RaisedKind :=
  if kind = .heater ∧ feedback = some .on ∧ effective = .off then .heaterStuck else .mismatch

/-! ### Alarm kinds (R149, R158, R159) -/

/-- R216: the place of a kind in the table of R149, counted from 0. -/
def AlarmKind.index : AlarmKind → Fin 23
  | .zoneWarm => 0
  | .zoneCold => 1
  | .probesLost => 2
  | .probeFault => 3
  | .sealFailed => 4
  | .sealLost => 5
  | .doorTravel => 6
  | .doorObstructed => 7
  | .doorForced => 8
  | .trailerLeft => 9
  | .closeForced => 10
  | .moveOverdue => 11
  | .unplannedScan => 12
  | .exposureSpent => 13
  | .defrostOverrun => 14
  | .recoveryLate => 15
  | .defrostForced => 16
  | .defrostAborted => 17
  | .outputMismatch => 18
  | .heaterStuck => 19
  | .nodeLost => 20
  | .plantStop => 21
  | .listOverflow => 22

/-- The kinds in the order of R149. -/
def AlarmKind.all : List AlarmKind :=
  [.zoneWarm, .zoneCold, .probesLost, .probeFault, .sealFailed, .sealLost, .doorTravel,
   .doorObstructed, .doorForced, .trailerLeft, .closeForced, .moveOverdue, .unplannedScan,
   .exposureSpent, .defrostOverrun, .recoveryLate, .defrostForced, .defrostAborted,
   .outputMismatch, .heaterStuck, .nodeLost, .plantStop, .listOverflow]

/-- R149: the one-shot kinds. -/
def AlarmKind.oneShot : AlarmKind → Bool
  | .sealFailed | .closeForced | .unplannedScan | .defrostOverrun | .defrostForced
  | .defrostAborted => true
  | _ => false

/-- R158: the kinds that are not maskable. -/
def AlarmKind.maskable : AlarmKind → Bool
  | .heaterStuck | .doorForced | .sealLost | .plantStop | .listOverflow => false
  | _ => true

/-- R158: a kind is loud when it is not maskable or its setting is LOUD. -/
def loudKind (mask : Table MaskSetting 23) (a : AlarmKind) : Bool :=
  !a.maskable || decide (mask[a.index] = .loud)

/-- R159: whether an entry holds the alarm line. -/
def holdsLine (mask : Table MaskSetting 23) (e : AlarmEntry) : Bool :=
  loudKind mask e.kind && decide (e.state ≠ .activeAck)

/-- R159: the level of the alarm line that a list and a mask give. -/
def lineLevel (mask : Table MaskSetting 23) (alarms : List AlarmEntry) (overflow : Option AlarmEntry) :
    Bool :=
  (alarms ++ overflow.toList).any (holdsLine mask)

end Sys2Proof.Machine
end

