-- ==== Sys2Proof/Machine/Alarms.lean ====
section
/-! DEFINITION. The Alarm List (Chapter 7): raising, clearing, acknowledging, the alarm line. -/

namespace Sys2Proof.Machine

/-- Whether an entry is of a kind and subject. -/
def AlarmEntry.matches (e : AlarmEntry) (a : AlarmKind) (subj : Subject) : Bool :=
  decide (e.kind = a) && decide (e.subject = subj)

/-- R150, R152: the repeat count held at 255. -/
def AlarmEntry.repeated (e : AlarmEntry) (now : Word) (st : AlarmState) : AlarmEntry :=
  { e with repeats := min Config.repeatMax (e.repeats + 1), last := now, state := st }

namespace Dock

/-- The entry of a kind and subject among the ordinary entries. -/
def alarmEntry (k : Dock) (a : AlarmKind) (subj : Subject) : Option AlarmEntry :=
  k.alarms.find? (·.matches a subj)

/-- R159: the line evaluated again. -/
def evalLine (k : Dock) : Dock := { k with alarmLine := lineLevel k.mask k.alarms k.overflow }

/-- R157: the notice of one change of an entry of a loud kind; `after` is none for REMOVED. -/
def alarmNotice (k : Dock) (e : AlarmEntry) (change : AlarmChange) (after : Option AlarmState)
    (by_ : Option Link) : Dock :=
  if loudKind k.mask e.kind then
    k.notify (.alarmChange e.kind e.subject change after e.repeats e.first e.last by_ k.siteTime)
  else k

/-- The ordinary entry of `e`'s kind and subject replaced by `e`. -/
def putEntry (k : Dock) (e : AlarmEntry) : Dock :=
  { k with alarms := k.alarms.map (fun x => if x.matches e.kind e.subject then e else x) }

/-- The ordinary entry of `e`'s kind and subject removed; the entries behind it close up (R148). -/
def dropEntry (k : Dock) (e : AlarmEntry) : Dock :=
  { k with alarms := k.alarms.filter (fun x => !x.matches e.kind e.subject) }

/-- R152: LIST_OVERFLOW raised into the reserved entry. -/
def raiseOverflow (k : Dock) : Dock :=
  let now := k.siteTime
  let e := match k.overflow with
    | none => { kind := .listOverflow, subject := .site, first := now, last := now, repeats := 1,
                state := .activeUnack }
    | some e => e.repeated now .activeUnack
  ({ k with overflow := some e }).evalLine.alarmNotice e .raised (some e.state) none

/-- R153: LIST_OVERFLOW's condition cleared. -/
def clearOverflow (k : Dock) : Dock :=
  match k.overflow with
  | none => k
  | some e =>
    match e.state with
    | .activeUnack =>
      let e' := { e with state := AlarmState.clearedUnack }
      ({ k with overflow := some e' }).evalLine.alarmNotice e' .conditionCleared (some .clearedUnack) none
    | .activeAck =>
      ({ k with overflow := none }).evalLine.alarmNotice e .conditionCleared none none
    | .clearedUnack => k

/-- R150, R151, R152: a kind raised with a subject. -/
def raise (k : Dock) (a : AlarmKind) (subj : Subject) : Dock :=
  let now := k.siteTime
  let st := if a.oneShot then AlarmState.clearedUnack else AlarmState.activeUnack
  match k.alarmEntry a subj with
  | some e =>
    let e' := e.repeated now st
    (k.putEntry e').evalLine.alarmNotice e' .raised (some st) none
  | none =>
    if k.alarms.length < Config.alarmPositions then
      let e : AlarmEntry := { kind := a, subject := subj, first := now, last := now, repeats := 1,
                              state := st }
      ({ k with alarms := k.alarms ++ [e] }).evalLine.alarmNotice e .raised (some st) none
    else k.raiseOverflow

/-- R154: the condition of a kind and subject cleared. -/
def clearCondition (k : Dock) (a : AlarmKind) (subj : Subject) : Dock :=
  match k.alarmEntry a subj with
  | none => k
  | some e =>
    match e.state with
    | .activeUnack =>
      let e' := { e with state := AlarmState.clearedUnack }
      (k.putEntry e').evalLine.alarmNotice e' .conditionCleared (some .clearedUnack) none
    | .activeAck =>
      ((k.dropEntry e).evalLine.alarmNotice e .conditionCleared none none).clearOverflow
    | .clearedUnack => k

/-- R155: one ordinary entry acknowledged by a link. -/
def ackEntry (k : Dock) (l : Link) (e : AlarmEntry) : Dock :=
  match e.state with
  | .activeUnack =>
    let e' := { e with state := AlarmState.activeAck }
    (k.putEntry e').evalLine.alarmNotice e' .acknowledged (some .activeAck) (some l)
  | .activeAck => k
  | .clearedUnack =>
    ((k.dropEntry e).evalLine.alarmNotice e .acknowledged none (some l)).clearOverflow

/-- R153, R155: the reserved entry acknowledged by a link. -/
def ackOverflow (k : Dock) (l : Link) : Dock :=
  match k.overflow with
  | none => k
  | some e =>
    match e.state with
    | .activeUnack =>
      let e' := { e with state := AlarmState.activeAck }
      ({ k with overflow := some e' }).evalLine.alarmNotice e' .acknowledged (some .activeAck) (some l)
    | .activeAck => k
    | .clearedUnack =>
      ({ k with overflow := none }).evalLine.alarmNotice e .acknowledged none (some l)

/-- R156: ACK_ALL's walk, oldest first and then the reserved entry. That a reserved entry which the walk first
clears and then removes sends a notice for each of the two changes (R157) is the model's choice
(notes/assumptions/23.md). -/
def ackEvery (k : Dock) (l : Link) : Dock :=
  (k.alarms.foldl (fun k e => k.ackEntry l e) k).ackOverflow l

end Dock
end Sys2Proof.Machine
end

