-- ==== Sys2Proof/Machine/Channels.lean ====
section
/-! DEFINITION. The Output Channels block (Chapter 6): commands, effective levels, feedback check. -/

namespace Sys2Proof.Machine

/-- R133: the blower of a door. -/
def blowerOf (d : Fin 16) : Fin 48 := ⟨2 * d.val, by omega⟩
/-- R133: the drive of a door. -/
def driveOf (d : Fin 16) : Fin 48 := ⟨2 * d.val + 1, by omega⟩
/-- R133: the heater of a zone. -/
def heaterOf (z : Fin 8) : Fin 48 := ⟨32 + 2 * z.val, by omega⟩
/-- R133: the fans of a zone. -/
def fansOf (z : Fin 8) : Fin 48 := ⟨33 + 2 * z.val, by omega⟩

/-- R133: the subject of a channel. -/
def channelSubject (c : Fin 48) : Fin 16 ⊕ Fin 8 :=
  if h : c.val < 32 then .inl ⟨c.val / 2, by omega⟩ else .inr ⟨(c.val - 32) / 2, by omega⟩

/-- R140: a raised kind as an alarm kind. -/
def RaisedKind.alarm : RaisedKind → AlarmKind
  | .mismatch => .outputMismatch
  | .heaterStuck => .heaterStuck

namespace Dock

/-- R133: a channel is fitted when its subject is. -/
def channelFitted (k : Dock) (c : Fin 48) : Bool :=
  match channelSubject c with
  | .inl d => k.doorFitted d
  | .inr z => k.zoneFitted z

/-- R140: the table of the feedback check; `atWrite` tells a feedback write from a change of level. -/
def compareChannel (k : Dock) (c : Fin 48) (atWrite : Bool) : Dock :=
  let ch := k.channels[c]
  match ch.feedback with
  | none => k
  | some fb =>
    if ch.check = .suspended then k
    else if fb = ch.effective then
      match ch.check with
      | .raised kind =>
        (k.modChannel c ({ · with check := .agree })).clearCondition kind.alarm (.channel c)
      | _ => k.modChannel c ({ · with check := .agree })
    else
      match ch.check with
      | .agree => k.modChannel c ({ · with check := .timing k.running })
      | .timing _ => if atWrite then k else k.modChannel c ({ · with check := .timing k.running })
      | .raised kind =>
        if disagreement (channelKind c) (some fb) ch.effective = kind then k
        else
          (k.clearCondition kind.alarm (.channel c)).modChannel c
            ({ · with check := .timing k.running })
      | .suspended => k

/-- R135: the effective level recomputed; a change of it is compared (R140). -/
def recompute (k : Dock) (c : Fin 48) : Dock :=
  let ch := k.channels[c]
  let eff := effectiveLevel (channelKind c) ch.latch ch.armed k.plantStop
  if eff = ch.effective then k
  else (k.modChannel c ({ · with effective := eff })).compareChannel c false

/-- R136: a sequencer's command. -/
def command (k : Dock) (c : Fin 48) (level : Level) : Dock :=
  match (k.channels[c]).owner with
  | .manual => k
  | .sequencer => (k.modChannel c ({ · with latch := level, armed := true })).recompute c

/-- R137: a level set by hand. -/
def setByHand (k : Dock) (c : Fin 48) (level : Level) : Dock :=
  (k.modChannel c ({ · with owner := .manual, latch := level, armed := true })).recompute c

/-- R138: a channel returned to sequencer ownership. -/
def returnChannel (k : Dock) (c : Fin 48) : Dock :=
  (k.modChannel c
    ({ · with owner := .sequencer, latch := (channelKind c).safe, armed := false })).recompute c

/-- R138, R130: a MANUAL channel returned; a SEQUENCER channel left. -/
def returnManual (k : Dock) (c : Fin 48) : Dock :=
  if (k.channels[c]).owner = .manual then k.returnChannel c else k

/-- R139, R142: a feedback written by a good report and compared; a SUSPENDED check resumes first. -/
def writeFeedback (k : Dock) (c : Fin 48) (fb : Option Level) : Dock :=
  (k.modChannel c (fun ch =>
    { ch with feedback := fb, check := if ch.check = .suspended then .agree else ch.check
    })).compareChannel c true

/-- R142: the check of one channel of a node marked LOST. -/
def suspendCheck (k : Dock) (c : Fin 48) : Dock :=
  k.modChannel c (fun ch =>
    { ch with
      feedback := none
      check := match ch.check with
        | .raised kind => .raised kind
        | _ => .suspended })

/-- R141: the mismatch timer of a channel expires; a feedback that has become UNKNOWN since it started
is an OUTPUT_MISMATCH. -/
def mismatchExpiry (k : Dock) (c : Fin 48) : Dock :=
  let ch := k.channels[c]
  match ch.check with
  | .timing start =>
    if k.due (some start) (channelKind c).grace then
      let kind := disagreement (channelKind c) ch.feedback ch.effective
      (k.modChannel c ({ · with check := .raised kind })).raise kind.alarm (.channel c)
    else k
  | _ => k

/-- R143, R144: the plant-stop state written and every effective level recomputed, in ascending channel
number (the model's choice, notes/assumptions/4.md). -/
def setPlantStop (k : Dock) (asserted : Bool) : Dock :=
  (List.finRange 48).foldl (fun k c => k.recompute c) { k with plantStop := asserted }

/-- R147: the restart values of a channel. That a check other than RAISED becomes AGREE also while the channel's
node stays LOST (R142) is the model's choice (notes/assumptions/26.md). -/
def restartChannel (c : Fin 48) (ch : Channel) : Channel :=
  { latch := if channelKind c = .drive ∧ ch.latch = .open then .stop else ch.latch
    owner := .sequencer
    armed := false
    effective := (channelKind c).safe
    feedback := none
    check := match ch.check with
      | .raised kind => .raised kind
      | _ => .agree }

end Dock
end Sys2Proof.Machine
end

