-- ==== Sys2Proof/Machine/Watches.lean ====
section
/-! DEFINITION. The warm and cold watches of the Zone Monitor (R14 to R16). -/

namespace Sys2Proof.Machine

/-- R16: warm supervision is suspended while the zone's defrost is in these phases. -/
def Phase.suspendsWarm : Phase → Bool
  | .defrosting | .dripping | .recovery => true
  | _ => false

namespace Dock

/-- R14: the warm watch compares Tz with the high limit. -/
def warmCompare (k : Dock) (z : Fin 8) : Dock :=
  let zn := k.zones[z]
  if zn.highLimit < zn.tz then
    match zn.warm with
    | .quiet =>
      if (k.defrosts[z]).phase.suspendsWarm then k
      else k.modZone z ({ · with warm := .timing k.running })
    | _ => k
  else
    match zn.warm with
    | .quiet => k
    | .timing _ => k.modZone z ({ · with warm := .quiet })
    | .raised => (k.modZone z ({ · with warm := .quiet })).clearCondition .zoneWarm (.zone z)

/-- R15: the cold watch compares Tz with the low limit. -/
def coldCompare (k : Dock) (z : Fin 8) : Dock :=
  let zn := k.zones[z]
  if zn.tz < zn.lowLimit then
    match zn.cold with
    | .quiet => k.modZone z ({ · with cold := .timing k.running })
    | _ => k
  else
    match zn.cold with
    | .quiet => k
    | .timing _ => k.modZone z ({ · with cold := .quiet })
    | .raised => (k.modZone z ({ · with cold := .quiet })).clearCondition .zoneCold (.zone z)

/-- R16: the suspension begins; a TIMING watch goes to QUIET, a RAISED one stays. -/
def suspendWarm (k : Dock) (z : Fin 8) : Dock :=
  match (k.zones[z]).warm with
  | .timing _ => k.modZone z ({ · with warm := .quiet })
  | _ => k

/-- R14: the warm delay timer expires. -/
def warmExpiry (k : Dock) (z : Fin 8) : Dock :=
  match (k.zones[z]).warm with
  | .timing start =>
    if k.due (some start) (k.zones[z]).alarmDelay then
      (k.modZone z ({ · with warm := .raised })).raise .zoneWarm (.zone z)
    else k
  | _ => k

/-- R15: the cold delay timer expires. -/
def coldExpiry (k : Dock) (z : Fin 8) : Dock :=
  match (k.zones[z]).cold with
  | .timing start =>
    if k.due (some start) (k.zones[z]).alarmDelay then
      (k.modZone z ({ · with cold := .raised })).raise .zoneCold (.zone z)
    else k
  | _ => k

end Dock

/-- R20: a watch after a warm restart; `beyond` tells whether Tz stands beyond the watch's limit. -/
def restartWatch (w : Watch) (beyond : Bool) (now : Nat) : Watch :=
  match w with
  | .timing _ => .timing now
  | .raised => .raised
  | .quiet => if beyond then .timing now else .quiet

end Sys2Proof.Machine
end

