-- ==== Sys2Proof/Machine/Defrost.lean ====
section
/-! DEFINITION. The Defrost Controller (Chapter 5): phases, slot arbiter, clear-zone test, recovery.
The chain of entries is straight: DRIPPING may enter RECOVERY, which may enter COOLING, which may enter
DUE, after which the arbiter may take zones into HOLDING and DEFROSTING. -/

namespace Sys2Proof.Machine

/-- R113: the move gate of a phase. -/
def Phase.gate : Phase → Gate
  | .holding | .defrosting | .dripping => .closed
  | _ => .open

/-- R113: the heater level of a phase. -/
def Phase.heater : Phase → Level
  | .defrosting => .on
  | _ => .off

/-- R113: the fan level of a phase. -/
def Phase.fans : Phase → Level
  | .defrosting | .dripping => .off
  | _ => .on

namespace Dock

/-- R113: the levels of the zone's present phase commanded. -/
def commandPhase (k : Dock) (z : Fin 8) : Dock :=
  let ph := (k.defrosts[z]).phase
  (k.command (heaterOf z) ph.heater).command (fansOf z) ph.fans

/-- R113: the DEFROST_PHASE notice of a change out of phase `old`. -/
def phaseNotice (k : Dock) (z : Fin 8) (old : Phase) : Dock :=
  let df := k.defrosts[z]
  k.notify (.defrostPhase z old df.phase df.frost df.forcing df.aborted k.siteTime)

/-- R16, R113: ZM told of a phase change. -/
def tellMonitor (k : Dock) (z : Fin 8) (old new : Phase) : Dock :=
  if new = .defrosting then k.suspendWarm z
  else if old = .recovery ∧ new = .cooling then k.warmCompare z
  else k

/-- R113: a phase entered, with its gate and levels, the notice and the word to ZM. -/
def enterPhase (k : Dock) (z : Fin 8) (ph : Phase) : Dock :=
  let old := (k.defrosts[z]).phase
  (((k.modDefrost z ({ · with phase := ph, gate := ph.gate })).commandPhase z).phaseNotice z old
    ).tellMonitor z old ph

/-- R120: the zone is clear. -/
def zoneClear (k : Dock) (z : Fin 8) : Bool :=
  decide ((k.defrosts[z]).moves = 0) &&
    (decide ((k.zones[z]).kind = .frozenRoom) || decide ((k.defrosts[z]).openDoors = 0))

/-- R120, R122: the clear-zone test of a zone in HOLDING, and the entry into DEFROSTING. -/
def clearTest (k : Dock) (z : Fin 8) : Dock :=
  if (k.defrosts[z]).phase = .holding ∧ k.zoneClear z = true ∧ k.plantStop = false then
    ((k.modDefrost z ({ · with deferral := none })).enterPhase z .defrosting).modDefrost z
      ({ · with duration := some k.running })
  else k

/-! ### The slot arbiter (R116) -/

def slotsHeld (k : Dock) : Nat := ((List.finRange 8).filter (fun z => (k.defrosts[z]).slot)).length

/-- R116: the DUE zone with the largest frost load; of equals, the lowest zone number. -/
def winner (k : Dock) : Option (Fin 8) :=
  ((List.finRange 8).filter (fun z => decide ((k.defrosts[z]).phase = .due))).foldl
    (fun best z => match best with
      | none => some z
      | some b => if (k.defrosts[b]).frost < (k.defrosts[z]).frost then some z else best) none

/-- R116, R120: a slot granted; the zone enters HOLDING and makes its clear-zone test. -/
def grant (k : Dock) (z : Fin 8) : Dock :=
  (((k.modDefrost z ({ · with slot := true })).enterPhase z .holding).modDefrost z
    ({ · with deferral := some k.running })).clearTest z

/-- R116: grants repeated while the three conditions hold; each takes one zone out of DUE. -/
def arbiterLoop : Nat → Dock → Dock
  | 0, k => k
  | n + 1, k =>
    if k.slotsHeld < k.slotLimit ∧ k.plantStop = false then
      match k.winner with
      | none => k
      | some z => arbiterLoop n (k.grant z)
    else k

/-- R116: the arbiter considers granting. -/
def arbiter (k : Dock) : Dock := arbiterLoop 8 k

/-! ### Becoming due (R109, R114) -/

/-- R114: the two conditions. -/
def isDue (k : Dock) (z : Fin 8) : Bool :=
  let df := k.defrosts[z]
  decide (df.config.threshold ≤ df.frost) || decide (df.lastEnd + df.config.maxInterval ≤ k.running)

/-- R114, R116: DUE entered, and the arbiter considers. -/
def enterDue (k : Dock) (z : Fin 8) : Dock := (k.enterPhase z .due).arbiter

/-- R114: the test of a zone in COOLING. -/
def dueTest (k : Dock) (z : Fin 8) : Dock :=
  if (k.defrosts[z]).phase = .cooling ∧ k.isDue z = true then k.enterDue z else k

/-- R109: an addition to the frost load, held at 65,535, and the test that follows it. -/
def addFrost (k : Dock) (z : Fin 8) (n : Nat) : Dock :=
  (k.modDefrost z (fun df => { df with frost := min Config.wordMax (df.frost + n) })).dueTest z

/-! ### Recovery, dripping (R125 to R127) -/

/-- R126: the end of a defrost and the entry into COOLING, with the test of R114. -/
def endDefrost (k : Dock) (z : Fin 8) : Dock :=
  ((k.modDefrost z (fun df =>
    if df.aborted then { df with aborted := false, forcing := false, recovery := none }
    else { df with frost := 0, lastEnd := k.running, interval := true, forcing := false,
                   recovery := none })).enterPhase z .cooling).dueTest z

/-- R126: the recovery test. -/
def recoveryTest (k : Dock) (z : Fin 8) : Dock :=
  if (k.defrosts[z]).phase = .recovery ∧ (k.zones[z]).tz ≤ (k.zones[z]).highLimit then k.endDefrost z
  else k

/-- R126: RECOVERY entered: slot released, gate opened, levels commanded, timer started; then the
zone's own recovery test and the arbiter. -/
def enterRecovery (k : Dock) (z : Fin 8) : Dock :=
  ((((k.modDefrost z ({ · with slot := false, drip := none })).enterPhase z .recovery).modDefrost z
    ({ · with recovery := some k.running })).recoveryTest z).arbiter

/-- R125: DRIPPING entered; a drip time of 0 passes on into RECOVERY. -/
def enterDripping (k : Dock) (z : Fin 8) : Dock :=
  let k1 := ((k.modDefrost z ({ · with duration := none })).enterPhase z .dripping).modDefrost z
    ({ · with drip := some k.running })
  if (k.defrosts[z]).config.dripTime = 0 then k1.enterRecovery z else k1

/-- R127: after every update of the zone, RECOVERY_LATE is cleared when Tz is at or below the limit. -/
def clearRecoveryLate (k : Dock) (z : Fin 8) : Dock :=
  if (k.zones[z]).tz ≤ (k.zones[z]).highLimit then k.clearCondition .recoveryLate (.zone z) else k

/-! ### Counts (R118) -/

def changeMoves (k : Dock) (z : Fin 8) (f : Nat → Nat) : Dock :=
  (k.modDefrost z (fun df => { df with moves := f df.moves })).clearTest z

def changeOpenDoors (k : Dock) (z : Fin 8) (f : Nat → Nat) : Dock :=
  (k.modDefrost z (fun df => { df with openDoors := f df.openDoors })).clearTest z

/-- R118: the zones that a move raises, each once, the source's zone first (the order is the model's
choice, notes/assumptions/4.md). -/
def flightZones (src dst : Option (Fin 8)) : List (Fin 8) := (src.toList ++ dst.toList).eraseDups

/-- R118: a move now in flight on a ring. -/
def moveBegan (k : Dock) (r : Fin 20) (src dst : Option (Fin 8)) : Dock :=
  let zs := flightZones src dst
  zs.foldl (fun k z => k.changeMoves z (· + 1)) { k with flights := tmod k.flights r (fun _ => zs) }

/-- R118: the move of a ring has ended; the counts its pick raised are lowered. -/
def moveEnded (k : Dock) (r : Fin 20) : Dock :=
  (k.flights[r]).foldl (fun k z => k.changeMoves z (· - 1))
    { k with flights := tmod k.flights r (fun _ => []) }

/-! ### Coil readings, plant stop, timers (R123, R124, R127, R128) -/

/-- R123: the accepted range of a coil reading; anything else is stored as invalid. -/
def coilStored (reading : Option Int) : Option Int :=
  match reading with
  | none => none
  | some c => if -600 ≤ c ∧ c ≤ 600 then some c else none

/-- R123: a coil reading stored, and the end of the heating at the termination temperature. -/
def coilReading (k : Dock) (z : Fin 8) (reading : Option Int) : Dock :=
  let c := coilStored reading
  let k1 := k.modDefrost z ({ · with coil := c })
  match c with
  | none => k1
  | some t =>
    if (k.defrosts[z]).phase = .defrosting ∧ (k.defrosts[z]).config.termination ≤ t then
      k1.enterDripping z
    else k1

/-- R128: a zone in DEFROSTING aborted at the assertion of the plant-stop line. -/
def abortZone (k : Dock) (z : Fin 8) : Dock :=
  if (k.defrosts[z]).phase = .defrosting then
    ((k.modDefrost z ({ · with duration := none, aborted := true })).raise .defrostAborted (.zone z)
      ).enterDripping z
  else k

/-- R128: the assertion of the plant-stop line at DC. -/
def defrostPlantStop (k : Dock) : Dock := (List.finRange 8).foldl (fun k z => k.abortZone z) k

/-- R128: the release of the plant-stop line at DC. -/
def defrostPlantRelease (k : Dock) : Dock :=
  ((List.finRange 8).foldl (fun k z => k.clearTest z) k).arbiter

/-- R114: the interval timer of a zone expires; it is acted on in COOLING alone. -/
def intervalExpiry (k : Dock) (z : Fin 8) : Dock :=
  let df := k.defrosts[z]
  if df.interval = true ∧ df.lastEnd + df.config.maxInterval ≤ k.running then
    (k.modDefrost z ({ · with interval := false })).dueTest z
  else k

/-- R124: the duration timer of a zone expires. -/
def durationExpiry (k : Dock) (z : Fin 8) : Dock :=
  if k.due (k.defrosts[z]).duration (k.defrosts[z]).config.maxDuration then
    (k.raise .defrostOverrun (.zone z)).enterDripping z
  else k

/-- R125: the drip timer of a zone expires. -/
def dripExpiry (k : Dock) (z : Fin 8) : Dock :=
  if k.due (k.defrosts[z]).drip (k.defrosts[z]).config.dripTime then k.enterRecovery z else k

/-- R127: the recovery timer of a zone expires. -/
def recoveryExpiry (k : Dock) (z : Fin 8) : Dock :=
  if k.due (k.defrosts[z]).recovery (k.defrosts[z]).config.recoveryTimeout then
    (k.raise .recoveryLate (.zone z)).endDefrost z
  else k

/-- R132: the first update of a zone after a warm restart. -/
def firstUpdate (k : Dock) (z : Fin 8) : Dock :=
  if (k.defrosts[z]).awaitingUpdate then
    ((k.modDefrost z ({ · with awaitingUpdate := false })).commandPhase z).dueTest z
  else k

/-- R132: the restart values of a defrost record; the coil reading among them, and what
follows for an interval timer aimed at a moment already passed, are the readings of
notes/assumptions/17.md. -/
def restartDefrost (fitted : Bool) (df : Defrost) : Defrost :=
  { config := df.config, frost := df.frost, lastEnd := df.lastEnd, phase := .cooling, gate := .open,
    slot := false, forcing := false, aborted := false, moves := 0, openDoors := 0, coil := none,
    interval := fitted, deferral := none, duration := none, drip := none, recovery := none,
    awaitingUpdate := fitted }

end Dock
end Sys2Proof.Machine
end

