-- ==== Sys2Proof/Machine/Pallets.lean ====
section
/-! DEFINITION. The Pallet Table (Chapter 2): slots, accrual sources, accrual, grading, relocation. -/

namespace Sys2Proof.Machine

/-- R80: the not-closed set. -/
def DoorState.notClosed : DoorState → Bool
  | .opening | .open | .closePending | .closing => true
  | _ => false

/-- R50: the position of the waiting entry `i` places behind the head. -/
def Ring.positionOf (r : Ring) (i : Nat) : Fin 32 :=
  ⟨(r.head.val + i) % 32, Nat.mod_lt _ (by decide)⟩

/-- R50: the tail index. -/
def Ring.tail (r : Ring) : Fin 32 := r.positionOf r.waiting.length

/-- The waiting entry at a position, if there is one. -/
def Ring.entryAt (r : Ring) (p : Fin 32) : Option Descriptor :=
  r.waiting[(p.val + 32 - r.head.val) % 32]?

namespace Dock

/-! ### Slots (R24) -/

/-- The record with a tag, with its slot. -/
def findTag (k : Dock) (tag : Word) : Option (Nat × Pallet) :=
  k.pallets.find? (fun e => decide (e.2.tag = tag))

/-- The record in a slot. -/
def palletAt (k : Dock) (slot : Nat) : Option Pallet :=
  (k.pallets.find? (fun e => decide (e.1 = slot))).map (·.2)

def modPallet (k : Dock) (slot : Nat) (f : Pallet → Pallet) : Dock :=
  { k with pallets := k.pallets.map (fun e => if e.1 = slot then (e.1, f e.2) else e) }

/-- R43: a slot emptied. -/
def emptySlot (k : Dock) (slot : Nat) : Dock :=
  { k with pallets := k.pallets.filter (fun e => decide (e.1 ≠ slot)) }

/-- The slots whose records satisfy a test, in slot order. -/
def slotsWhere (k : Dock) (f : Pallet → Bool) : List Nat :=
  (k.pallets.filter (fun e => f e.2)).map (·.1)

/-- R24: the number of records located at a place. -/
def countAt (k : Dock) (loc : Loc) : Nat :=
  (k.pallets.filter (fun e => decide (e.2.loc = loc))).length

/-! ### Sources (R27, R28) -/

/-- The zone of a location that a descriptor can name (Locations table; a door's dock zone may be unset). -/
def spotZone (k : Dock) : Spot → Option (Fin 8)
  | .trailer d => (k.doors[d]).config.dockZone
  | .lane l => some (k.lanes[l]).zone
  | .room z => some z

/-- The temperature of a zone as an accrual source. -/
def zoneSource (k : Dock) (z : Fin 8) : Source :=
  { temp := (k.zones[z]).tz, substituted := decide ((k.zones[z]).tempStatus = .substituted) }

/-- R27, TRANSIT row: the warmer of two sources; where both are equal, either mark counts. -/
def warmer (a b : Source) : Source :=
  if b.temp < a.temp then a
  else if a.temp < b.temp then b
  else { temp := a.temp, substituted := a.substituted || b.substituted }

def warmerOpt : Option Source → Option Source → Option Source
  | none, b => b
  | a, none => a
  | some a, some b => some (warmer a b)

/-- R28: the warmest fitted zone, counted as substituted. -/
def warmestFitted (k : Dock) : Option Source :=
  ((List.finRange 8).filter (k.zoneFitted ·)).foldl
    (fun acc z => warmerOpt acc (some { temp := (k.zones[z]).tz, substituted := true })) none

/-- R27: the accrual source of a record. -/
def source (k : Dock) (p : Pallet) : Option Source :=
  match p.loc with
  | .at (.trailer d) =>
    if (k.doors[d]).state.notClosed then (k.doors[d]).config.dockZone.map k.zoneSource else none
  | .at (.lane l) => some (k.zoneSource (k.lanes[l]).zone)
  | .at (.room z) => some (k.zoneSource z)
  | .transit r pos =>
    match (k.rings[r]).entryAt pos with
    | none => none
    | some d =>
      warmerOpt ((k.spotZone d.source).map k.zoneSource) ((k.spotZone d.dest).map k.zoneSource)
  | .adrift => k.warmestFitted
  | .departed => none

/-- R9 step 2, R29: whether the accrual source of a record depends on a zone. -/
def dependsOn (k : Dock) (z : Fin 8) (p : Pallet) : Bool :=
  match p.loc with
  | .at (.trailer d) =>
    (k.doors[d]).state.notClosed && decide ((k.doors[d]).config.dockZone = some z)
  | .at (.lane l) => decide ((k.lanes[l]).zone = z)
  | .at (.room y) => decide (y = z)
  | .transit r pos =>
    match (k.rings[r]).entryAt pos with
    | none => false
    | some d => decide (k.spotZone d.source = some z) || decide (k.spotZone d.dest = some z)
  | .adrift => true
  | .departed => false

/-! ### Grading (R32 to R35) and accrual (R31) -/

/-- R33, R34, R35: the grade of the record in a slot recomputed, with what follows from a change.
That the PALLET_GRADE notice comes before the raising or clearing of EXPOSURE_SPENT is the model's choice
(notes/assumptions/4.md). -/
def regrade (k : Dock) (slot : Nat) : Dock :=
  match k.palletAt slot with
  | none => k
  | some p =>
    let g := gradeOf p.exposure p.budget (k.classes[p.cls]).warn
    if g = p.grade then k
    else
      let rev := p.revision + 1
      let k1 := k.modPallet slot (fun q =>
        { q with grade := g, revision := rev, quarantine := q.quarantine || decide (g = .spent) })
      let k2 := k1.notify
        (.palletGrade p.tag slot p.grade g p.exposure p.budget p.loc rev k.siteTime)
      if g = .spent then k2.raise .exposureSpent (.pallet p.tag)
      else if p.grade = .spent then k2.clearCondition .exposureSpent (.pallet p.tag)
      else k2

/-- R31: the record in a slot accrued at its source, and regraded. -/
def accrue (k : Dock) (slot : Nat) : Dock :=
  match k.palletAt slot with
  | none => k
  | some p =>
    (k.modPallet slot (fun _ => accrueRecord (k.source p) k.classes[p.cls] k.running p)).regrade slot

/-- Records accrued one after another. -/
def accrueSlots (k : Dock) (slots : List Nat) : Dock := slots.foldl (fun k slot => k.accrue slot) k

/-- Every record that satisfies a test accrued, in slot order (notes/assumptions/4.md). -/
def accrueWhere (k : Dock) (f : Pallet → Bool) : Dock := k.accrueSlots (k.slotsWhere f)

/-- The records located in the trailer at a door accrued. -/
def accrueTrailer (k : Dock) (d : Fin 16) : Dock :=
  k.accrueWhere (fun p => decide (p.loc = .at (.trailer d)))

/-- R36, R37: a record accrued, relocated, and its revision incremented once. -/
def relocate (k : Dock) (slot : Nat) (loc : Loc) : Dock :=
  (k.accrue slot).modPallet slot (fun p => { p with loc := loc, revision := p.revision + 1 })

/-- Records relocated one after another, in slot order. -/
def relocateSlots (k : Dock) (slots : List Nat) (loc : Loc) : Dock :=
  slots.foldl (fun k slot => k.relocate slot loc) k

/-! ### Admission (R24, R26) -/

/-- R24: the lowest empty slots are found by walking the table in slot order; the record joins in the
first gap at or after `slot`. -/
def insertLowest (p : Pallet) : Nat → List (Nat × Pallet) → List (Nat × Pallet) × Nat
  | slot, [] => ([(slot, p)], slot)
  | slot, e :: rest =>
    if slot < e.1 then ((slot, p) :: e :: rest, slot)
    else
      let r := insertLowest p (e.1 + 1) rest
      (e :: r.1, r.2)

/-- R26: one new record, and the slot it takes. -/
def admitOne (k : Dock) (tag : Word) (cls : Fin 8) (budget : Nat) (spot : Spot) : Dock × Nat :=
  let p : Pallet :=
    { tag := tag, cls := cls, budget := budget, exposure := 0, residue := 0, stamp := k.running,
      loc := .at spot, grade := .ok, quarantine := false, saturated := false, substituted := false,
      revision := 0 }
  let r := insertLowest p 0 k.pallets
  ({ k with pallets := r.1 }, r.2)

end Dock
end Sys2Proof.Machine
end

