-- ==== Sys2Proof/Machine/DoorSteps.lean ====
section
/-! DEFINITION. The Door Sequencer's state entries (R80, R81), open-time feeds (R82), closes (R92 to R94)
and the fall of the through-door count. What cancels moves stands in Doors.lean, after the Move Engine. -/

namespace Sys2Proof.Machine

/-- R98: the states in which a leak is timed. -/
def DoorState.leakTimed (s : DoorState) : Bool := s.notClosed || decide (s = .sealed)

/-- R80: the drive level of a state; none where DS commands nothing. -/
def DoorState.drive : DoorState → Option Level
  | .opening => some .open
  | .closing => some .close
  | .outOfService | .resync => none
  | _ => some .stop

/-- R80: the blower level of a state; `latch` is the present one, which FAULT keeps (R99). -/
def DoorState.blower (latch : Level) : DoorState → Option Level
  | .vacant | .arrived | .assigned | .deflating | .released => some .off
  | .inflating | .sealed | .opening | .open | .closePending | .closing => some .on
  | .fault => some latch
  | .outOfService | .resync => none

/-- R87, R88, R90, R92, R97, R98, R99, R105: the timers after a change from `old` to `new`. A timer runs
in its own states alone and starts at each entry; the leak grace runs on inside SEALED and the
not-closed set, except from SEALED into OPENING. -/
def timersOn (old new : DoorState) (closeRequested plantStop : Bool) (now : Nat) (t : DoorTimers) :
    DoorTimers where
  inflate := if new = .inflating then some now else none
  travel := if (new = .opening ∨ new = .closing) ∧ plantStop = false then some now else none
  reclose := if new = .open ∧ closeRequested = true then some now else none
  closeWait := if new = .closePending then some now else none
  deflate := if new = .deflating then some now else none
  leakGrace :=
    if new.leakTimed = true ∧ ¬ (old = .sealed ∧ new = .opening) then t.leakGrace else none

namespace Dock

def modTimers (k : Dock) (d : Fin 16) (f : DoorTimers → DoorTimers) : Dock :=
  k.modDoor d (fun dr => { dr with timers := f dr.timers })

/-- R80: the levels of the door's present state commanded. -/
def commandDoor (k : Dock) (d : Fin 16) : Dock :=
  let st := (k.doors[d]).state
  let k1 := match st.blower (k.channels[blowerOf d]).latch with
    | none => k
    | some l => k.command (blowerOf d) l
  match st.drive with
  | none => k1
  | some l => k1.command (driveOf d) l

/-- R82: an open-time feed. -/
def feed (k : Dock) (d : Fin 16) : Dock :=
  let dr := k.doors[d]
  let k1 := k.modDoor d ({ · with openStamp := k.running })
  match dr.config.dockZone with
  | none => k1
  | some z => k1.addFrost z ((k.running - dr.openStamp) * dr.config.weight)

/-- R118: DC told that a door has entered or left the not-closed set. -/
def tellOpenDoors (k : Dock) (d : Fin 16) (f : Nat → Nat) : Dock :=
  match (k.doors[d]).config.dockZone with
  | none => k
  | some z => k.changeOpenDoors z f

/-- R81: the passage out of the not-closed set: accrual, feed, DC told. -/
def leaveSet (k : Dock) (d : Fin 16) : Dock :=
  ((k.accrueTrailer d).feed d).tellOpenDoors d (· - 1)

/-- R81: the passage into the not-closed set: accrual, stamp, DC told. -/
def joinSet (k : Dock) (d : Fin 16) : Dock :=
  ((k.accrueTrailer d).modDoor d ({ · with openStamp := k.running })).tellOpenDoors d (· + 1)

/-- R80, R81: a state entered after its passage, if any: record, timers, flags, levels, notice.
Entry into INFLATING clears seal-lost (R87); entry into FAULT clears close-requested (R99). -/
def enterState (k : Dock) (d : Fin 16) (new : DoorState) : Dock :=
  let old := (k.doors[d]).state
  let k1 := k.modDoor d (fun dr =>
    { dr with
      state := new
      timers := timersOn old new dr.closeRequested k.plantStop k.running dr.timers
      sealLost := dr.sealLost && decide (new ≠ .inflating)
      closeRequested := dr.closeRequested && decide (new ≠ .fault) })
  (k1.commandDoor d).notify
    (.doorState d old new (k.doors[d]).through k.siteTime)

/-- R81: a change of state with the passage that it makes. -/
def changeState (k : Dock) (d : Fin 16) (new : DoorState) : Dock :=
  let old := (k.doors[d]).state
  let k1 :=
    if old.notClosed = true ∧ new.notClosed = false then k.leaveSet d
    else if old.notClosed = false ∧ new.notClosed = true then k.joinSet d
    else k
  k1.enterState d new

/-- The node of a door (R177), by address less 1. -/
def doorNode (d : Fin 16) : Fin 48 := ⟨d.val, by omega⟩
/-- The node of a zone (R177), by address less 1. -/
def zoneNode (z : Fin 8) : Fin 48 := ⟨16 + z.val, by omega⟩
/-- The node of a terminal (R177), by address less 1. -/
def terminalNode (t : Fin 24) : Fin 48 := ⟨24 + t.val, by omega⟩

/-- R94, R102: CLOSING entered from CLOSE_PENDING, or FAULT while the door's node is LOST. -/
def closeOrFault (k : Dock) (d : Fin 16) : Dock :=
  if (k.nodes[doorNode d]).status = .lost then k.changeState d .fault else k.changeState d .closing

/-- R91: the through-door count of a door rises at a pick. -/
def countRises (k : Dock) (d : Fin 16) : Dock :=
  k.modDoor d (fun dr => { dr with through := dr.through + 1 })

/-- R91, R94: the through-door count of a door falls; DS acts on a fall to 0 in CLOSE_PENDING, except
at the door whose own event makes the cancellation (notes/assumptions/7.md). -/
def countFalls (k : Dock) (d : Fin 16) (exempt : Option (Fin 16)) : Dock :=
  let k1 := k.modDoor d (fun dr => { dr with through := dr.through - 1 })
  if exempt ≠ some d ∧ (k1.doors[d]).state = .closePending ∧ (k1.doors[d]).through = 0 then
    k1.closeOrFault d
  else k1

/-- R92: the row for OPEN: close-requested set, then CLOSING or CLOSE_PENDING. -/
def closeFromOpen (k : Dock) (d : Fin 16) : Dock :=
  (k.modDoor d ({ · with closeRequested := true })).changeState d
    (if (k.doors[d]).through = 0 then .closing else .closePending)

/-- R92, R93: the rows for OPEN and OPENING, shared by CLOSE_DOOR and the sequencer close. -/
def takeClose (k : Dock) (d : Fin 16) : Dock :=
  let dr := k.doors[d]
  match dr.state with
  | .open => k.closeFromOpen d
  | .opening =>
    if dr.retry = 0 then (k.modDoor d ({ · with closeRequested := true })).changeState d .closing
    else if dr.retry = 3 then k.modDoor d ({ · with closeRequested := true })
    else k
  | _ => k

/-- R121: the deferral timer of a zone expires. -/
def deferralExpiry (k : Dock) (z : Fin 8) : Dock :=
  if k.due (k.defrosts[z]).deferral (k.defrosts[z]).config.maxDeferral then
    let k1 := (k.modDefrost z ({ · with deferral := none, forcing := true })).raise
      .defrostForced (.zone z)
    if (k1.zones[z]).kind = .dock then
      ((List.finRange 16).filter (fun d => decide ((k1.doors[d]).config.dockZone = some z))).foldl
        (fun k d => k.takeClose d) k1
    else k1
  else k

/-- R90: the reclose timer of a door expires. -/
def recloseExpiry (k : Dock) (d : Fin 16) : Dock :=
  if k.due (k.doors[d]).timers.reclose Config.recloseTime then
    (k.modTimers d ({ · with reclose := none })).takeClose d
  else k

/-- R87: the inflate timer of a door expires. -/
def inflateExpiry (k : Dock) (d : Fin 16) : Dock :=
  if k.due (k.doors[d]).timers.inflate (k.doors[d]).config.inflateTimeout then
    (k.changeState d .assigned).raise .sealFailed (.door d)
  else k

/-- R88: the deflate timer of a door expires. -/
def deflateExpiry (k : Dock) (d : Fin 16) : Dock :=
  if k.due (k.doors[d]).timers.deflate Config.deflateTime then k.changeState d .released else k

/-- R97: the travel timer of a door expires. The drive's STOP, which R97 lists first, is the one of the entry
into FAULT (R80), commanded after DOOR_TRAVEL is raised: the model's choice (notes/assumptions/4.md). -/
def travelExpiry (k : Dock) (d : Fin 16) : Dock :=
  if k.due (k.doors[d]).timers.travel (k.doors[d]).config.travelTimeout then
    (k.raise .doorTravel (.door d)).changeState d .fault
  else k

/-- R98: the leak-grace timer of a door expires. -/
def leakExpiry (k : Dock) (d : Fin 16) : Dock :=
  if k.due (k.doors[d]).timers.leakGrace (k.doors[d]).config.leakGrace then
    let k1 := ((k.modTimers d ({ · with leakGrace := none })).modDoor d
      ({ · with sealLost := true })).raise .sealLost (.door d)
    if (k.doors[d]).state = .sealed then k1.changeState d .inflating else k1.takeClose d
  else k

/-- R105: the travel timers frozen at the assertion of the plant-stop line. -/
def doorsPlantStop (k : Dock) : Dock :=
  { k with doors := k.doors.map (fun dr => { dr with timers := { dr.timers with travel := none } }) }

/-- R105: the travel timers started again at the release. -/
def doorsPlantRelease (k : Dock) : Dock :=
  { k with doors := k.doors.map (fun dr =>
      if dr.state = .opening ∨ dr.state = .closing then
        { dr with timers := { dr.timers with travel := some k.running } }
      else dr) }

/-- R102: a door's node is marked LOST. -/
def doorNodeLost (k : Dock) (d : Fin 16) : Dock :=
  let k1 := k.modTimers d ({ · with leakGrace := none })
  let dr := k.doors[d]
  match dr.state with
  | .open =>
    if dr.through = 0 then k1.changeState d .fault
    else (k1.modDoor d ({ · with closeRequested := true })).changeState d .closePending
  | .closePending => if dr.through = 0 then k1.changeState d .fault else k1
  | .fault | .outOfService | .resync => k1
  | _ => k1.changeState d .fault

end Dock
end Sys2Proof.Machine
end

