-- ==== Sys2Proof/Machine/Moves.lean ====
section
/-! DEFINITION. The Move Engine (Chapter 3): advancing, cancelling and failing descriptors, pick and
place scans, what a move hands to the other blocks, allowances and displays. -/

namespace Sys2Proof.Machine

/-- The doors whose trailers are endpoints of a descriptor, source first (R63, R69). -/
def Descriptor.doors (d : Descriptor) : List (Fin 16) :=
  (match d.source with
    | .trailer a => [a]
    | _ => []) ++
  (match d.dest with
    | .trailer b => [b]
    | _ => [])

/-- A descriptor names a location at either end. -/
def Descriptor.names (d : Descriptor) (s : Spot) : Bool := decide (d.source = s) || decide (d.dest = s)

namespace Dock

/-- Every waiting descriptor of every ring. -/
def waitingAll (k : Dock) : List Descriptor := (List.finRange 20).flatMap (fun r => (k.rings[r]).waiting)

/-- A tag stands in a waiting descriptor of some ring. -/
def tagWaiting (k : Dock) (tag : Word) : Bool := k.waitingAll.any (fun d => decide (d.tag = tag))

/-- A location is named by a waiting descriptor of some ring. -/
def spotWaiting (k : Dock) (s : Spot) : Bool := k.waitingAll.any (·.names s)

/-! ### Advance (R52) -/

/-- R52, R71: a ring left with no waiting entry becomes HALTED and DRAINED, and says so. -/
def drainIfEmpty (k : Dock) (r : Fin 20) : Dock :=
  if (k.rings[r]).waiting.isEmpty then
    (k.modRing r ({ · with state := .halted, drained := true })).notify (.ringDrained r k.siteTime)
  else k

/-- R52: the head leaves the waiting entries as `d`. -/
def advance (k : Dock) (r : Fin 20) (d : Descriptor) : Dock :=
  (k.modRing r (fun ring =>
    { ring with
      lastFinished := some { position := ring.head, move := d }
      head := ring.positionOf 1
      waiting := ring.waiting.tail })).drainIfEmpty r

/-! ### Capacity accounting (R49) -/

def modTrailer (k : Dock) (d : Fin 16) (f : Direction → Direction) : Dock :=
  k.modDoor d (fun dr => { dr with trailer := dr.trailer.map (fun t =>
    { t with direction := f t.direction }) })

/-- R49: the counts of an outbound trailer changed; an inbound one has none. -/
def outboundCounts (f g : Nat → Nat) : Direction → Direction
  | .inbound => .inbound
  | .outbound c l r => .outbound c (f l) (g r)

/-- R49: the counts of a destination changed; a room has none. -/
def destCounts (k : Dock) (s : Spot) (stored reserved : Nat → Nat) : Dock :=
  match s with
  | .trailer d => k.modTrailer d (outboundCounts stored reserved)
  | .lane l => k.modLane l (fun ln =>
      { ln with occupied := stored ln.occupied, reserved := reserved ln.reserved })
  | .room _ => k

/-- R49: an accepted pick lowers the occupied count of a source lane. -/
def leaveSource (k : Dock) (s : Spot) : Dock :=
  match s with
  | .lane l => k.modLane l (fun ln => { ln with occupied := ln.occupied - 1 })
  | _ => k

/-! ### Hand-offs (R68, R69) -/

/-- R69: the through-door counts raised at a pick, source door first (the model's choice,
notes/assumptions/4.md). -/
def doorsRise (k : Dock) (d : Descriptor) : Dock := d.doors.foldl (fun k x => k.countRises x) k

/-- R69, R91: the through-door counts lowered at the end of a move; the source door's count is lowered
and acted on before the destination door's (the model's choice, notes/assumptions/4.md). -/
def doorsFall (k : Dock) (d : Descriptor) (exempt : Option (Fin 16)) : Dock :=
  d.doors.foldl (fun k x => k.countFalls x exempt) k

/-- R69: the end of a move told to DS and then to DC (the model's choice, notes/assumptions/4.md). -/
def moveOver (k : Dock) (r : Fin 20) (d : Descriptor) (exempt : Option (Fin 16)) : Dock :=
  (k.doorsFall d exempt).moveEnded r

/-- R68: the room quantum of a zone, when the zone is a FROZEN_ROOM and differs from the other end. -/
def roomQuantum (k : Dock) (here other : Option (Fin 8)) : Dock :=
  match here with
  | none => k
  | some z =>
    if (k.zones[z]).kind = .frozenRoom ∧ other ≠ some z then
      k.addFrost z (k.defrosts[z]).config.quantum
    else k

/-- R60, R67: an overdue move that ends clears the MOVE_OVERDUE condition of its ring. -/
def endOverdue (k : Dock) (r : Fin 20) (d : Descriptor) : Dock :=
  if d.overdue then k.clearCondition .moveOverdue (.ring r) else k

/-! ### Cancelling (R59, R60) -/

/-- R60: the PICKED head of a ring cancelled; `exempt` is the door whose own event cancels it. -/
def cancelPicked (k : Dock) (r : Fin 20) (d : Descriptor) (exempt : Option (Fin 16)) : Dock :=
  let k1 := match k.findTag d.tag with
    | none => k
    | some e => k.relocate e.1 .adrift
  ((((k1.destCounts d.dest id (· - 1)).moveOver r d exempt).endOverdue r d).advance r
    { d with status := .cancelled })

/-- R60: the PICKED heads with the trailer at a door as an endpoint cancelled, in ring order. -/
def cancelThrough (k : Dock) (d : Fin 16) : Dock :=
  (List.finRange 20).foldl (fun k r =>
    match (k.rings[r]).waiting.head? with
    | none => k
    | some m => if m.status = .picked ∧ m.names (.trailer d) = true then k.cancelPicked r m (some d)
                else k) k

/-! ### Failing (R71) -/

/-- R71: the waiting entries of a ring that fail when the trailer at a door leaves, each with the
position it held. -/
def failing (ring : Ring) (d : Fin 16) : List Finished :=
  (ring.waiting.zipIdx.filter
    (fun e => decide (e.1.status = .pending) && e.1.names (.trailer d))).map
    (fun e => { position := ring.positionOf e.2, move := { e.1 with status := .failed } })

/-- R71: one ring after the trailer at a door has left. -/
def failRing (k : Dock) (d : Fin 16) (r : Fin 20) : Dock :=
  match (failing (k.rings[r]) d).getLast? with
  | none => k
  | some last =>
    (k.modRing r (fun ring =>
      { ring with
        lastFinished := some last
        waiting := ring.waiting.filter
          (fun m => !(decide (m.status = .pending) && m.names (.trailer d))) })).drainIfEmpty r

/-- R71: every ring, in ring order. -/
def failTrailer (k : Dock) (d : Fin 16) : Dock :=
  (List.finRange 20).foldl (fun k r => k.failRing d r) k

/-! ### Verdicts (R182) and refusals (R64) -/

/-- R182: a verdict stored for a fitted terminal. -/
def giveVerdict (k : Dock) (t : Fin 24) (v : Verdict) (tag : Word) : Dock :=
  if k.nodeFitted (terminalNode t) then
    k.modNode (terminalNode t) (fun n =>
      { n with verdict := some (v, tag), verdictCount := n.verdictCount + 1 })
  else k

/-- R64, R66: the notice of a refused scan and the verdict handed to FL. -/
def scanRefused (k : Dock) (t : Fin 24) (scan : ScanKind) (tag : Word) (v : Verdict)
    (ring : Option (Fin 20)) : Dock :=
  (k.notify (.pickRefused t scan tag v ring k.siteTime)).giveVerdict t v tag

/-- R64: the last refusal of a ring. -/
def storeRefusal (k : Dock) (r : Fin 20) (v : Verdict) (tag : Word) (t : Fin 24) : Dock :=
  k.modRing r ({ · with lastRefusal := some { verdict := v, tag := tag, terminal := t } })

/-- The ring of a door (R50). -/
def doorRing (d : Fin 16) : Fin 20 := ⟨d.val, by omega⟩

/-! ### Picks (R62 to R65) -/

/-- R62: a ring is the candidate of a pick of `tag` at `loc`. -/
def isCandidate (k : Dock) (loc : Spot) (tag : Word) (r : Fin 20) : Bool :=
  decide ((k.rings[r]).state ≠ .halted) &&
    match (k.rings[r]).waiting.head? with
    | none => false
    | some m => decide (m.status = .pending) && decide (m.tag = tag) && decide (m.source = loc)

/-- R62: the candidate ring. -/
def candidate (k : Dock) (loc : Spot) (tag : Word) : Option (Fin 20) :=
  (List.finRange 20).find? (k.isCandidate loc tag)

/-- R63 check 6: the first of the doors that is not OPEN gives the verdict. -/
def doorVerdict (k : Dock) : List (Fin 16) → Option Verdict
  | [] => none
  | d :: rest =>
    match (k.doors[d]).state with
    | .open => k.doorVerdict rest
    | .closePending => some .doorClosing
    | _ => some .doorNotOpen

/-- R63 check 7: the gate of a zone is CLOSED. -/
def gateClosed (k : Dock) (z : Option (Fin 8)) : Bool :=
  match z with
  | none => false
  | some z => decide ((k.defrosts[z]).gate = .closed)

/-- R63 checks 8 and 9: the destination's verdict. -/
def destVerdict (k : Dock) (s : Spot) : Option Verdict :=
  match s with
  | .lane l =>
    let ln := k.lanes[l]
    if ln.state = .blocked then some .destBlocked
    else if ln.occupied + ln.reserved = ln.capacity then some .destFull else none
  | .trailer d =>
    match (k.doors[d]).trailer with
    | some { direction := .outbound c l r, .. } => if l + r = c then some .destFull else none
    | _ => none
  | .room _ => none

/-- R63 checks 3 to 9, for the candidate ring and its head. -/
def pickVerdict (k : Dock) (r : Fin 20) (m : Descriptor) : Option Verdict :=
  if (k.rings[r]).state = .paused then some .ringPaused
  else match k.findTag m.tag with
    | none => some .wrongSource
    | some e =>
      if e.2.loc ≠ .at m.source then some .wrongSource
      else if e.2.quarantine = true ∧ (match m.dest with | .trailer _ => true | _ => false) = true then
        some .quarantined
      else match k.doorVerdict m.doors with
        | some v => some v
        | none =>
          if k.gateClosed (k.spotZone m.source) = true ∨ k.gateClosed (k.spotZone m.dest) = true then
            some .gateClosed
          else k.destVerdict m.dest

/-- R65: an accepted pick. Of the hand-offs, which R69 leaves without an order, DS hears first, then DC
of the move, and the room quantum is handed on last (the model's choice, notes/assumptions/4.md). -/
def acceptPick (k : Dock) (t : Fin 24) (r : Fin 20) (m : Descriptor) (slot : Nat) : Dock :=
  let src := k.spotZone m.source
  let dst := k.spotZone m.dest
  let k1 := ((k.relocate slot (.transit r (k.rings[r]).head)).leaveSource m.source).destCounts
    m.dest id (· + 1)
  let k2 := k1.modRing r (fun ring =>
    { ring with
      waiting := { m with status := .picked, pickTime := some k.running } :: ring.waiting.tail })
  (((k2.doorsRise m).moveBegan r src dst).roomQuantum src dst).giveVerdict t .accept m.tag

/-- R64: the effects of a NOT_HEAD verdict at a bound terminal. -/
def unplanned (k : Dock) (t : Fin 24) (loc : Spot) (tag : Word) : Dock :=
  let k1 := match loc with
    | .trailer d =>
      (k.modRing (doorRing d) ({ · with unplanned := true })).storeRefusal (doorRing d) .notHead tag t
    | _ => k
  k1.raise .unplannedScan (.terminal t)

/-- R63, R64, R65: a PICK scan at a terminal bound to `loc`. -/
def pickScan (k : Dock) (t : Fin 24) (loc : Spot) (tag : Word) : Dock :=
  match k.candidate loc tag with
  | none =>
    if k.plantStop then k.scanRefused t .pick tag .held none
    else (k.scanRefused t .pick tag .notHead none).unplanned t loc tag
  | some r =>
    if k.plantStop then (k.storeRefusal r .held tag t).scanRefused t .pick tag .held (some r)
    else match (k.rings[r]).waiting.head? with
      | none => k
      | some m =>
        match k.pickVerdict r m, k.findTag tag with
        | none, some e => k.acceptPick t r m e.1
        | some v, _ => (k.storeRefusal r v tag t).scanRefused t .pick tag v (some r)
        | none, none => k

/-! ### Places (R66, R67) -/

/-- R66: the ring whose PICKED head names the tag and has destination `loc`. -/
def placeRing (k : Dock) (loc : Spot) (tag : Word) : Option (Fin 20) :=
  (List.finRange 20).find? (fun r =>
    match (k.rings[r]).waiting.head? with
    | none => false
    | some m => decide (m.status = .picked) && decide (m.tag = tag) && decide (m.dest = loc))

/-- R67: an accepted place. Of the hand-offs, which R69 leaves without an order, DS hears first, then DC
of the move's end, and the room quantum is handed on last (the model's choice,
notes/assumptions/4.md). -/
def acceptPlace (k : Dock) (t : Fin 24) (r : Fin 20) (m : Descriptor) : Dock :=
  let src := k.spotZone m.source
  let dst := k.spotZone m.dest
  let pos := (k.rings[r]).head
  let k1 := match k.findTag m.tag with
    | none => k
    | some e => k.relocate e.1 (.at m.dest)
  let k2 := ((((k1.destCounts m.dest (· + 1) (· - 1)).moveOver r m none).roomQuantum dst src).endOverdue
    r m)
  let k3 := if m.notify then
      k2.notify (.moveDone r pos m.tag m.source m.dest (k.siteOf (m.pickTime.getD 0)) k.siteTime
        m.overdue)
    else k2
  (k3.advance r { m with status := .placed }).giveVerdict t .accept m.tag

/-- R66: the verdict and the ring of a refused place. -/
def placeRefusal (k : Dock) (tag : Word) : Verdict × Option (Fin 20) :=
  match k.findTag tag with
  | some (_, { loc := .transit r _, .. }) => (.wrongPlace, some r)
  | _ => (.notInTransit, none)

/-- R66, R67: a PLACE scan at a terminal bound to `loc`. -/
def placeScan (k : Dock) (t : Fin 24) (loc : Spot) (tag : Word) : Dock :=
  match k.placeRing loc tag with
  | some r =>
    match (k.rings[r]).waiting.head? with
    | none => k
    | some m => k.acceptPlace t r m
  | none => k.scanRefused t .place tag (k.placeRefusal tag).1 (k.placeRefusal tag).2

/-- R62: a scan handed on by FL, judged against the binding as it stands. A PICK scan from a terminal
bound to nothing is NOT_HEAD under plant stop too: the model's choice between R62 and R73
(notes/assumptions/18.md). That the PICK_REFUSED notice of a PLACE scan from such a terminal carries no ring, also
when a PICKED head names the tag, is the model's choice (notes/assumptions/12.md). -/
def scan (k : Dock) (t : Fin 24) (kind : ScanKind) (tag : Word) : Dock :=
  match (k.nodes[terminalNode t]).binding with
  | none => k.scanRefused t kind tag .notHead none
  | some loc =>
    match kind with
    | .pick => k.pickScan t loc tag
    | .place => k.placeScan t loc tag

/-! ### Allowances (R70) and displays (R72) -/

/-- R70: the allowance timer of a ring's PICKED head expires. -/
def allowanceExpiry (k : Dock) (r : Fin 20) : Dock :=
  match (k.rings[r]).waiting with
  | [] => k
  | m :: rest =>
    if m.status = .picked ∧ m.overdue = false ∧ k.due m.pickTime m.allowance = true then
      (k.modRing r (fun ring => { ring with waiting := { m with overdue := true } :: rest })).raise
        .moveOverdue (.ring r)
    else k

/-- R72: the rings shown at a terminal bound to `loc`. -/
def shownRing (k : Dock) (loc : Spot) (r : Fin 20) : Bool :=
  decide ((k.rings[r]).state = .run) &&
    match (k.rings[r]).waiting.head? with
    | none => false
    | some m => decide (m.status = .pending) && decide (m.source = loc)

/-- R72: the moves of a terminal's display, ring by ring, each head before its next entry. -/
def displayMoves (k : Dock) (binding : Option Spot) : List Descriptor :=
  match binding with
  | none => []
  | some loc =>
    (((List.finRange 20).filter (k.shownRing loc)).take 2).flatMap
      (fun r => (k.rings[r]).waiting.take 2)

/-! ### Warm restart (R75) -/

/-- R75: the restart values of a ring. -/
def restartRing (r : Ring) : Ring := { head := r.head }

/-- R75: an outbound trailer part recounted. -/
def recountTrailer (k : Dock) (d : Fin 16) (t : Trailer) : Trailer :=
  let n := k.countAt (.at (.trailer d))
  { t with direction := outboundCounts (fun _ => n) (fun _ => 0) t.direction }

/-- R75: lane and trailer counts taken from the records' locations. -/
def recount (k : Dock) : Dock :=
  { k with
    lanes := Vector.ofFn (fun l : Fin 24 =>
      { k.lanes[l] with reserved := 0, occupied := k.countAt (.at (.lane l)) })
    doors := Vector.ofFn (fun d : Fin 16 =>
      { k.doors[d] with trailer := (k.doors[d]).trailer.map (k.recountTrailer d) }) }

end Dock
end Sys2Proof.Machine
end

