-- ==== Sys2Proof/Machine/Operands.lean ====
section
/-! DEFINITION. The operand forms of the requests: statuses and replies (R215, R218), and every form of
field that Chapter 11 lets a body carry (R216): indices, signed fields, enumerations, locations,
subjects, option bytes and flag bytes. Each reader answers none for a value the field does not allow. -/

namespace Sys2Proof.Machine

/-- R215: the statuses. -/
inductive Status where
  | ok
  | pending
  | unknownRequest
  | badLength
  | notCommissioned
  | notPermitted
  | notHolder
  | overrun
  | badArg
  | noSuch
  | badState
  | full
  | duplicate
  | stale
  | held
  | defrostPending
  | inUse
  | alreadySet
  deriving DecidableEq, Repr

/-- R215: the status codes. -/
def Status.code : Status → Byte
  | .ok => 0x00
  | .pending => 0x01
  | .unknownRequest => 0x10
  | .badLength => 0x11
  | .notCommissioned => 0x12
  | .notPermitted => 0x13
  | .notHolder => 0x14
  | .overrun => 0x15
  | .badArg => 0x20
  | .noSuch => 0x21
  | .badState => 0x22
  | .full => 0x23
  | .duplicate => 0x24
  | .stale => 0x25
  | .held => 0x26
  | .defrostPending => 0x27
  | .inUse => 0x28
  | .alreadySet => 0x29

/-- R200: the answer to a request, a status and what follows it. -/
structure Reply where
  status : Status
  data : List Byte := []
  deriving DecidableEq, Repr

/-- R200: a refusal carries its status alone and changes nothing. -/
def refuse {σ : Type} (s : σ) (st : Status) : σ × Reply := (s, { status := st })

/-- An acceptance with what its rule says the reply carries. -/
def accept {σ : Type} (s : σ) (data : List Byte := []) : σ × Reply := (s, { status := .ok, data := data })

/-! ### Numbers -/

/-- An index byte of a table with `n` records. -/
def indexOf (n : Nat) (b : Byte) : Option (Fin n) := if h : b.toNat < n then some ⟨b.toNat, h⟩ else none

/-- A number within a range. -/
def within (lo hi v : Nat) : Bool := decide (lo ≤ v) && decide (v ≤ hi)

/-- A signed number within a range. -/
def withinInt (lo hi v : Int) : Bool := decide (lo ≤ v) && decide (v ≤ hi)

/-! ### Enumerations (R216) -/

def readZoneKind (b : Byte) : Option ZoneKind :=
  match b.toNat with
  | 0 => some .frozenRoom
  | 1 => some .dock
  | _ => none

def readRounding (b : Byte) : Option Rounding :=
  match b.toNat with
  | 0 => some .towardWarm
  | 1 => some .towardCold
  | 2 => some .nearestEven
  | _ => none

def readLaneState (b : Byte) : Option LaneState :=
  match b.toNat with
  | 0 => some .enabled
  | 1 => some .blocked
  | _ => none

def readMaskSetting (b : Byte) : Option MaskSetting :=
  match b.toNat with
  | 0 => some .loud
  | 1 => some .quiet
  | _ => none

def readPosition (b : Byte) : Option Position :=
  match b.toNat with
  | 0 => some .closed
  | 1 => some .open
  | 2 => some .between
  | _ => none

/-- An option byte, a presence byte or an indication: 0 or 1. -/
def readBit (b : Byte) : Option Bool :=
  match b.toNat with
  | 0 => some false
  | 1 => some true
  | _ => none

/-- R216: an alarm kind is 1 to 23 in the order of R149. -/
def alarmKindAt : Nat → Option AlarmKind
  | 1 => some .zoneWarm
  | 2 => some .zoneCold
  | 3 => some .probesLost
  | 4 => some .probeFault
  | 5 => some .sealFailed
  | 6 => some .sealLost
  | 7 => some .doorTravel
  | 8 => some .doorObstructed
  | 9 => some .doorForced
  | 10 => some .trailerLeft
  | 11 => some .closeForced
  | 12 => some .moveOverdue
  | 13 => some .unplannedScan
  | 14 => some .exposureSpent
  | 15 => some .defrostOverrun
  | 16 => some .recoveryLate
  | 17 => some .defrostForced
  | 18 => some .defrostAborted
  | 19 => some .outputMismatch
  | 20 => some .heaterStuck
  | 21 => some .nodeLost
  | 22 => some .plantStop
  | 23 => some .listOverflow
  | _ => none

/-- R216: an alarm kind byte. -/
def readAlarmKind (b : Byte) : Option AlarmKind := alarmKindAt b.toNat

/-- R133, R216: a level byte of a drive channel. -/
def readDriveLevel (b : Byte) : Option Level :=
  match b.toNat with
  | 0 => some .stop
  | 1 => some .open
  | 2 => some .close
  | _ => none

/-- R133, R216: a level byte of a blower, heater or fan channel. -/
def readSwitchLevel (b : Byte) : Option Level :=
  match b.toNat with
  | 0 => some .off
  | 1 => some .on
  | _ => none

/-! ### Locations (R216) -/

/-- A location that a descriptor, a terminal or an admission can name. -/
def readSpot (l : RawLoc) : Option Spot :=
  match l.kind.toNat with
  | 1 => (indexOf 16 l.index).map .trailer
  | 2 => (indexOf 24 l.index).map .lane
  | 3 => (indexOf 8 l.index).map .room
  | _ => none

/-- R179: a terminal binding; the kind none unbinds (its index is not read, notes/assumptions/14.md). -/
def readBinding (l : RawLoc) : Option (Option Spot) :=
  if l.kind = 0 then some none else (readSpot l).map some

/-- R42: a filter of LIST_PALLETS. -/
inductive Filter where
  | any
  | spot (s : Spot)
  | transit
  | adrift
  | departed
  deriving DecidableEq, Repr

/-- R42, R216: an index other than 0 with TRANSIT, ADRIFT or DEPARTED is refused. -/
def readFilter (l : RawLoc) : Option Filter :=
  match l.kind.toNat with
  | 0 => some .any
  | 4 => if l.index = 0 then some .transit else none
  | 5 => if l.index = 0 then some .adrift else none
  | 6 => if l.index = 0 then some .departed else none
  | _ => (readSpot l).map .spot

/-- R42: a record's location matches a filter. -/
def Filter.admits : Filter → Loc → Bool
  | .any, _ => true
  | .spot s, .at t => decide (s = t)
  | .transit, .transit _ _ => true
  | .adrift, .adrift => true
  | .departed, .departed => true
  | _, _ => false

/-! ### Subjects (R149, R155, R216) -/

/-- An index of four bytes. -/
def indexOfWord (n : Nat) (w : Word) : Option (Fin n) :=
  if h : w.toNat < n then some ⟨w.toNat, h⟩ else none

/-- R155: a subject sent as a type and four bytes, each index within the range of its type. -/
def readSubject (type : Byte) (w : Word) : Option Subject :=
  match type.toNat with
  | 0 => if w = 0 then some .site else none
  | 1 => (indexOfWord 16 w).map .door
  | 2 => (indexOfWord 8 w).map .zone
  | 3 => (indexOfWord 32 w).map .probe
  | 4 => (indexOfWord 20 w).map .ring
  | 5 => if w = 0 then none else some (.pallet w)
  | 6 => (indexOfWord 48 w).map .channel
  | 7 => if w = 0 then none else (indexOfWord 48 (w - 1)).map .node
  | 8 => (indexOfWord 24 w).map .terminal
  | _ => none

/-- R149: the subject types as R216 numbers them. -/
def Subject.type : Subject → Nat
  | .site => 0
  | .door _ => 1
  | .zone _ => 2
  | .probe _ => 3
  | .ring _ => 4
  | .pallet _ => 5
  | .channel _ => 6
  | .node _ => 7
  | .terminal _ => 8

/-- R149: the subject type of a kind. -/
def AlarmKind.subjectType : AlarmKind → Nat
  | .zoneWarm | .zoneCold | .probesLost | .defrostOverrun | .recoveryLate | .defrostForced
  | .defrostAborted => 2
  | .probeFault => 3
  | .sealFailed | .sealLost | .doorTravel | .doorObstructed | .doorForced | .trailerLeft
  | .closeForced => 1
  | .moveOverdue => 4
  | .unplannedScan => 8
  | .exposureSpent => 5
  | .outputMismatch | .heaterStuck => 6
  | .nodeLost => 7
  | .plantStop | .listOverflow => 0

end Sys2Proof.Machine
end

