-- ==== Sys2Proof/Machine/Records.lean ====
section
/-! DEFINITION. What replies and notices carry, byte by byte (R216, R218, R219). Layouts that Chapter 11
does not fix hold the fields their rule names, in its order (notes/assumptions/2.md). -/

namespace Sys2Proof.Machine

/-! ### Enumerations and absent values (R216) -/

def ZoneKind.code : ZoneKind → Byte
  | .frozenRoom => 0
  | .dock => 1

def Rounding.code : Rounding → Byte
  | .towardWarm => 0
  | .towardCold => 1
  | .nearestEven => 2

def TempStatus.code : TempStatus → Byte
  | .valid => 0
  | .substituted => 1

def Watch.code : Watch → Byte
  | .quiet => 0
  | .timing _ => 1
  | .raised => 2

def ProbeStatus.code : ProbeStatus → Byte
  | .ok => 0
  | .outOfRange => 1
  | .stale => 2
  | .unbound => 3

def Grade.code : Grade → Byte
  | .ok => 0
  | .warn => 1
  | .spent => 2

def LaneState.code : LaneState → Byte
  | .enabled => 0
  | .blocked => 1

def MoveStatus.code : MoveStatus → Byte
  | .pending => 0
  | .picked => 1
  | .placed => 2
  | .cancelled => 3
  | .failed => 4

def RingState.code : RingState → Byte
  | .run => 0
  | .paused => 1
  | .halted => 2

def Verdict.code : Verdict → Byte
  | .accept => 0
  | .held => 1
  | .notHead => 2
  | .ringPaused => 3
  | .wrongSource => 4
  | .quarantined => 5
  | .doorClosing => 6
  | .doorNotOpen => 7
  | .gateClosed => 8
  | .destBlocked => 9
  | .destFull => 10
  | .notInTransit => 11
  | .wrongPlace => 12

def DoorState.code : DoorState → Byte
  | .vacant => 0
  | .arrived => 1
  | .assigned => 2
  | .inflating => 3
  | .sealed => 4
  | .opening => 5
  | .open => 6
  | .closePending => 7
  | .closing => 8
  | .deflating => 9
  | .released => 10
  | .fault => 11
  | .outOfService => 12
  | .resync => 13

def Position.code : Position → Byte
  | .closed => 0
  | .open => 1
  | .between => 2

def Phase.code : Phase → Byte
  | .cooling => 0
  | .due => 1
  | .holding => 2
  | .defrosting => 3
  | .dripping => 4
  | .recovery => 5
  | .inhibited => 6

def Gate.code : Gate → Byte
  | .open => 0
  | .closed => 1

/-- R216: OFF, ON for a switched channel; STOP, OPEN, CLOSE for a drive. -/
def Level.code : Level → Byte
  | .off => 0
  | .on => 1
  | .stop => 0
  | .open => 1
  | .close => 2

def Owner.code : Owner → Byte
  | .sequencer => 0
  | .manual => 1

def Check.code : Check → Byte
  | .agree => 0
  | .timing _ => 1
  | .raised _ => 2
  | .suspended => 3

/-- R216: channel raised kind. -/
def Check.kindCode : Check → Byte
  | .raised .mismatch => 1
  | .raised .heaterStuck => 2
  | _ => 0

def ChannelKind.code : ChannelKind → Byte
  | .blower => 0
  | .drive => 1
  | .heater => 2
  | .fans => 3

/-- R216: alarm kinds are 1 to 23. -/
def AlarmKind.code (a : AlarmKind) : Byte := byteOf (a.index.val + 1)

/-- R216: none is REMOVED. -/
def alarmStateCode : Option AlarmState → Byte
  | some .activeUnack => 0
  | some .activeAck => 1
  | some .clearedUnack => 2
  | none => 3

def AlarmChange.code : AlarmChange → Byte
  | .raised => 0
  | .conditionCleared => 1
  | .acknowledged => 2

def ScanKind.code : ScanKind → Byte
  | .pick => 1
  | .place => 2

def HoldLostReason.code : HoldLostReason → Byte
  | .taken => 0
  | .pendingDropped => 1

def NodeStatus.code : NodeStatus → Byte
  | .notFitted => 0
  | .online => 1
  | .lost => 2

/-- R216: holder, pending, link. -/
def linkCode : Option Link → Byte
  | none => 0
  | some .site => 1
  | some .floor => 2

/-- R216: an absent door, zone, ring or position is 0xFF. -/
def indexByte {n : Nat} : Option (Fin n) → Byte
  | none => 0xFF
  | some i => byteOf i.val

/-- R216: feedback UNKNOWN is 0xFF. -/
def feedbackByte : Option Level → Byte
  | none => 0xFF
  | some l => l.code

def spotBytes : Spot → List Byte
  | .trailer d => [1, byteOf d.val]
  | .lane l => [2, byteOf l.val]
  | .room z => [3, byteOf z.val]

def bindingBytes : Option Spot → List Byte
  | none => [0, 0]
  | some s => spotBytes s

def locBytes : Loc → List Byte
  | .at s => spotBytes s
  | .transit _ _ => [4, 0]
  | .adrift => [5, 0]
  | .departed => [6, 0]

/-- R216: a subject, a type and four bytes. -/
def subjectBytes (s : Subject) : List Byte :=
  byteOf s.type :: (match s with
    | .site => numBytes4 0
    | .door d => numBytes4 d.val
    | .zone z => numBytes4 z.val
    | .probe p => numBytes4 p.val
    | .ring r => numBytes4 r.val
    | .pallet tag => wordBytes tag
    | .channel c => numBytes4 c.val
    | .node n => numBytes4 (n.val + 1)
    | .terminal t => numBytes4 t.val)

/-- R216: a flag byte, bit 0 first; undefined bits are 0. -/
def flagsByte (bits : List Bool) : Byte :=
  byteOf (bits.zipIdx.foldl (fun acc e => if e.1 then acc + 2 ^ e.2 else acc) 0)

/-- R216: a coil reading in three bytes. -/
def coilBytes : Option Int → List Byte
  | none => 0 :: tempBytes 0
  | some c => 1 :: tempBytes c

/-- R177: what stands at a node's address. -/
inductive NodeSubject where
  | door (d : Fin 16)
  | zone (z : Fin 8)
  | terminal (t : Fin 24)
  deriving DecidableEq, Repr

/-- R177: the kind and the subject of a node, by its address less 1. -/
def nodeSubject (n : Fin 48) : NodeSubject :=
  if h : n.val < 16 then .door ⟨n.val, h⟩
  else if h2 : n.val < 24 then .zone ⟨n.val - 16, by omega⟩
  else .terminal ⟨n.val - 24, by omega⟩

namespace Dock

/-! ### Timers (R218) -/

/-- R218: a running mask of one byte and a four-byte expiry for each timer, 0 where not running. -/
def timerBytes (k : Dock) (expiries : List (Option Nat)) : List Byte :=
  flagsByte (expiries.map Option.isSome) ::
    expiries.flatMap (fun e => match e with
      | none => numBytes4 0
      | some t => wordBytes (k.siteOf t))

/-! ### Zones, probes, classes (R217, R218) -/

/-- R4: the probes bound to a zone, in ascending probe number. -/
def boundProbes (k : Dock) (z : Fin 8) : List (Fin 32) :=
  (List.finRange 32).filter (fun p => decide ((k.probes[p]).bound = some z))

/-- R218: the 26-byte zone record; `inexact` is the flag as it stood before the request. -/
def zoneRecord (k : Dock) (z : Fin 8) (inexact : Bool) : List Byte :=
  let zn := k.zones[z]
  let bound := k.boundProbes z
  [byteOf z.val, zn.kind.code] ++ tempBytes zn.setPoint ++ tempBytes zn.highLimit ++
    tempBytes zn.lowLimit ++ numBytes2 zn.alarmDelay ++ [zn.rounding.code, byteOf bound.length] ++
    ((bound.map (fun p => byteOf p.val) ++ List.replicate 4 (0xFF : Byte)).take 4) ++
    tempBytes zn.tz ++ [zn.tempStatus.code, flagByte inexact] ++
    wordBytes (k.siteOf zn.lastUpdate) ++ [zn.warm.code, zn.cold.code]

/-- R5, R18: a probe record as it stands; the reading time of an unbound probe is the one that R4 and
R5 leave in it (notes/assumptions/2.md). -/
def probeRecord (k : Dock) (p : Fin 32) : List Byte :=
  let pr := k.probes[p]
  [indexByte pr.bound, (BitVec.ofInt 8 pr.offset)] ++ tempBytes pr.raw ++
    wordBytes (k.siteOf pr.readTime) ++ [pr.status.code]

/-- R22: a class record, the fields of R21. -/
def classRecord (k : Dock) (c : Fin 8) : List Byte :=
  let pc := k.classes[c]
  tempBytes pc.limit ++ [byteOf pc.weight] ++ numBytes2 pc.budget ++ [byteOf pc.warn]

/-! ### Pallets (R218) -/

/-- R218: the 25-byte pallet record. -/
def palletRecord (k : Dock) (slot : Nat) (p : Pallet) : List Byte :=
  numBytes2 slot ++ wordBytes p.tag ++ [byteOf p.cls.val] ++ numBytes2 p.budget ++
    numBytes2 p.exposure ++ numBytes2 p.residue ++ wordBytes (k.siteOf p.stamp) ++ locBytes p.loc ++
    (match p.loc with
      | .transit r pos => [byteOf r.val, byteOf pos.val]
      | _ => [0xFF, 0xFF]) ++
    [p.grade.code, flagsByte [p.quarantine, p.saturated, p.substituted]] ++ halfBytes p.revision

/-- The pallet record in a slot, empty when the slot is. -/
def palletRecordAt (k : Dock) (slot : Nat) : List Byte :=
  match k.palletAt slot with
  | none => []
  | some p => k.palletRecord slot p

/-- R218: the 15-byte summary of LIST_PALLETS. -/
def palletSummary (slot : Nat) (p : Pallet) : List Byte :=
  numBytes2 slot ++ wordBytes p.tag ++ [byteOf p.cls.val] ++ locBytes p.loc ++
    [p.grade.code, flagsByte [p.quarantine, p.saturated, p.substituted]] ++ numBytes2 p.exposure ++
    halfBytes p.revision

/-- The summary of the record in a slot, empty when the slot is. -/
def palletSummaryAt (k : Dock) (slot : Nat) : List Byte :=
  match k.palletAt slot with
  | none => []
  | some p => palletSummary slot p

/-! ### Lanes and rings (R46, R218) -/

/-- R48: a lane record, the fields of R46. -/
def laneRecord (k : Dock) (l : Fin 24) : List Byte :=
  let ln := k.lanes[l]
  [byteOf ln.zone.val, byteOf ln.capacity, byteOf ln.occupied, byteOf ln.reserved, ln.state.code]

/-- R218: the 17-byte move descriptor. -/
def descriptorRecord (k : Dock) (pos : Fin 32) (d : Descriptor) : List Byte :=
  [byteOf pos.val] ++ wordBytes d.tag ++ spotBytes d.source ++ spotBytes d.dest ++
    [flagsByte [d.notify, d.overdue, d.pickTime.isSome]] ++ numBytes2 d.allowance ++ [d.status.code] ++
    (match d.pickTime with
      | none => numBytes4 0
      | some t => wordBytes (k.siteOf t))

/-- R218: the last refusal of a ring; the tag and terminal of an absent one are not stated. -/
def refusalBytes (k : Dock) : Option LastRefusal → List Byte
  | none => 0xFF :: (List.range 5).map (fun i => Config.unstatedByte (8 + i) k.running)
  | some f => f.verdict.code :: wordBytes f.tag ++ [byteOf f.terminal.val]

/-- R61, R218: the reply of READ_RING. -/
def ringReply (k : Dock) (r : Fin 20) (offset : Nat) : List Byte :=
  let ring := k.rings[r]
  let shown := (ring.waiting.zipIdx.drop offset).take 8
  [ring.state.code, byteOf ring.head.val, byteOf ring.tail.val, byteOf ring.waiting.length,
    flagsByte [ring.drained, ring.unplanned]] ++ k.refusalBytes ring.lastRefusal ++
    [byteOf shown.length] ++
    shown.flatMap (fun e => k.descriptorRecord (ring.positionOf e.2) e.1) ++
    (match ring.lastFinished with
      | none => List.replicate 18 0
      | some f => 1 :: k.descriptorRecord f.position f.move)

/-! ### Doors (R218) -/

/-- R218: bytes 0 to 14 of the door record. -/
def doorConfigBytes (k : Dock) (d : Fin 16) : List Byte :=
  let c := (k.doors[d]).config
  [byteOf d.val, indexByte c.dockZone, byteOf c.weight] ++ numBytes2 c.hold ++ numBytes2 c.low ++
    numBytes2 c.release ++ numBytes2 c.inflateTimeout ++ [byteOf c.travelTimeout, byteOf c.leakGrace] ++
    numBytes2 c.closeWait

/-- R218: bytes 15 to 23 of the door record. That loaded and reserved are 0 for INBOUND, as the capacity is, is
the model's choice (notes/assumptions/2.md). -/
def trailerBytes : Option Trailer → List Byte
  | none => List.replicate 9 0
  | some t => [1] ++ wordBytes t.id ++ (match t.direction with
    | .inbound => [0, 0, 0, 0]
    | .outbound c l r => [1, byteOf c, byteOf l, byteOf r])

/-- The expiry of a timer. -/
def expiry (start : Option Nat) (length : Nat) : Option Nat := start.map (· + length)

/-- R218: the 57-byte door record. -/
def doorRecord (k : Dock) (d : Fin 16) : List Byte :=
  let dr := k.doors[d]
  k.doorConfigBytes d ++ trailerBytes dr.trailer ++ [dr.state.code, flagByte dr.presence] ++
    numBytes2 dr.pressure ++
    [dr.position.code, flagsByte [dr.closeRequested, dr.sealLost], byteOf dr.retry, byteOf dr.through] ++
    k.timerBytes
      [expiry dr.timers.inflate dr.config.inflateTimeout,
       expiry dr.timers.travel dr.config.travelTimeout,
       expiry dr.timers.reclose Config.recloseTime,
       expiry dr.timers.closeWait dr.config.closeWait,
       expiry dr.timers.leakGrace dr.config.leakGrace,
       expiry dr.timers.deflate Config.deflateTime]

/-! ### Defrost (R112) -/

/-- R111, R112: a defrost record, the fields of R110 in its order. -/
def defrostRecord (k : Dock) (z : Fin 8) : List Byte :=
  let df := k.defrosts[z]
  let c := df.config
  numBytes2 c.threshold ++ numBytes4 c.maxInterval ++ [byteOf c.quantum] ++ tempBytes c.termination ++
    numBytes2 c.maxDuration ++ numBytes2 c.dripTime ++ numBytes2 c.recoveryTimeout ++
    numBytes2 c.maxDeferral ++ numBytes2 df.frost ++ wordBytes (k.siteOf df.lastEnd) ++
    [df.phase.code, df.gate.code, flagByte df.slot, flagsByte [df.forcing, df.aborted],
      byteOf df.moves, byteOf df.openDoors] ++ coilBytes df.coil ++
    k.timerBytes
      [if df.interval then some (df.lastEnd + c.maxInterval) else none,
       expiry df.deferral c.maxDeferral,
       expiry df.duration c.maxDuration,
       expiry df.drip c.dripTime,
       expiry df.recovery c.recoveryTimeout]

/-! ### Channels (R145) -/

/-- R137, R145: a channel record, the fields of R134. -/
def channelRecord (k : Dock) (c : Fin 48) : List Byte :=
  let ch := k.channels[c]
  [ch.latch.code, ch.owner.code, flagByte ch.armed, ch.effective.code, feedbackByte ch.feedback,
    ch.check.code, ch.check.kindCode] ++
    k.timerBytes [match ch.check with
      | .timing start => some (start + (channelKind c).grace)
      | _ => none]

/-- R145: the reply of READ_CHANNEL. -/
def channelReply (k : Dock) (c : Fin 48) : List Byte :=
  (channelKind c).code :: subjectBytes (match channelSubject c with
    | .inl d => .door d
    | .inr z => .zone z) ++ k.channelRecord c ++ [flagByte k.plantStop]

/-! ### Alarms (R218) -/

/-- R218: the 17-byte alarm entry, with the state it is given. -/
def alarmRecord (pos : Nat) (e : AlarmEntry) (st : Option AlarmState) : List Byte :=
  [byteOf pos, e.kind.code] ++ subjectBytes e.subject ++ wordBytes e.first ++ wordBytes e.last ++
    [byteOf e.repeats, alarmStateCode st]

/-- R218: the mask table in three bytes; bit `i - 1`, from bit 0 of the last byte, is kind `i` QUIET. -/
def maskBytes (k : Dock) : List Byte :=
  let n := AlarmKind.all.foldl
    (fun acc a => if k.mask[a.index] = .quiet then acc + 2 ^ a.index.val else acc) 0
  (numBytes4 n).drop 1

/-- R160: the entries with their positions; the reserved entry stands at 47. -/
def alarmPositions (k : Dock) : List (Nat × AlarmEntry) :=
  k.alarms.zipIdx.map (fun e => (e.2, e.1)) ++ k.overflow.toList.map (fun e => (47, e))

/-- R160, R218: the reply of READ_ALARMS. -/
def alarmsReply (k : Dock) (start : Nat) : List Byte :=
  let rest := k.alarmPositions.filter (fun e => decide (start ≤ e.1))
  let taken := rest.take 8
  let next := if 8 < rest.length then (match taken.getLast? with
    | none => 48
    | some e => e.1 + 1) else 48
  [byteOf k.alarms.length, flagByte k.overflow.isSome, flagByte k.alarmLine] ++ k.maskBytes ++
    [byteOf next, byteOf taken.length] ++
    taken.flatMap (fun e => alarmRecord e.1 e.2 (some e.2.state))

/-! ### Field nodes and clocks (R190, R192) -/

/-- R182, R190: a last verdict with its tag. The tag of an absent one is not stated (notes/assumptions/3.md);
that its verdict byte is 0xFF in the replies too, as in the poll (R220), is the model's choice
(notes/assumptions/2.md). -/
def verdictBytes (k : Dock) : Option (Verdict × Word) → List Byte
  | none => 0xFF :: (List.range 4).map (fun i => Config.unstatedByte (16 + i) k.running)
  | some (v, tag) => v.code :: wordBytes tag

/-- R179: a terminal's node record, the fields of R177. -/
def terminalRecord (k : Dock) (t : Fin 24) : List Byte :=
  let n := k.nodes[terminalNode t]
  [n.status.code, byteOf n.misses] ++ bindingBytes n.binding ++ k.verdictBytes n.verdict ++
    [n.verdictCount]

/-- R190: the reply of READ_NODE for the node at address `n + 1`. -/
def nodeReply (k : Dock) (n : Fin 48) : List Byte :=
  let nd := k.nodes[n]
  match nodeSubject n with
  | .door d => 0 :: subjectBytes (.door d) ++ [nd.status.code, byteOf nd.misses]
  | .zone z => 1 :: subjectBytes (.zone z) ++ [nd.status.code, byteOf nd.misses]
  | .terminal t => 2 :: subjectBytes (.terminal t) ++ k.terminalRecord t

/-- R192: running seconds, the offset and the site time. -/
def clockBytes (k : Dock) : List Byte :=
  numBytes4 k.running ++ wordBytes k.offset ++ wordBytes k.siteTime

end Dock

/-! ### Notices (R219) -/

/-- R219: the codes. -/
def Notice.code : Notice → Byte
  | .doorState .. => 0x01
  | .pickRefused .. => 0x02
  | .moveDone .. => 0x03
  | .ringDrained .. => 0x04
  | .palletGrade .. => 0x05
  | .defrostPhase .. => 0x06
  | .alarmChange .. => 0x07
  | .holdGranted .. => 0x08
  | .holdLost .. => 0x09
  | .noteWaiting .. => 0x0A
  | .noteTaken .. => 0x0B
  | .zoneStatus .. => 0x0C

/-- R219: the bodies. -/
def Notice.body : Notice → List Byte
  | .doorState d old new through time =>
    [byteOf d.val, old.code, new.code, byteOf through] ++ wordBytes time
  | .pickRefused t scan tag v ring time =>
    [byteOf t.val, scan.code] ++ wordBytes tag ++ [v.code, indexByte ring] ++ wordBytes time
  | .moveDone r pos tag src dst pick place overdue =>
    [byteOf r.val, byteOf pos.val] ++ wordBytes tag ++ spotBytes src ++ spotBytes dst ++
      wordBytes pick ++ wordBytes place ++ [flagByte overdue]
  | .ringDrained r time => byteOf r.val :: wordBytes time
  | .palletGrade tag slot old new x b loc rev time =>
    wordBytes tag ++ numBytes2 slot ++ [old.code, new.code] ++ numBytes2 x ++ numBytes2 b ++
      locBytes loc ++ halfBytes rev ++ wordBytes time
  | .defrostPhase z old new frost forcing aborted time =>
    [byteOf z.val, old.code, new.code] ++ numBytes2 frost ++ [flagsByte [forcing, aborted]] ++
      wordBytes time
  | .alarmChange a subj change st n first last by_ time =>
    [a.code] ++ subjectBytes subj ++ [change.code, alarmStateCode st, byteOf n] ++ wordBytes first ++
      wordBytes last ++ [linkCode by_] ++ wordBytes time
  | .holdGranted d h p time => [byteOf d.val, linkCode h, linkCode p] ++ wordBytes time
  | .holdLost d h p reason time =>
    [byteOf d.val, linkCode h, linkCode p, reason.code] ++ wordBytes time
  | .noteWaiting n time => byteOf n :: wordBytes time
  | .noteTaken n time => byteOf n :: wordBytes time
  | .zoneStatus z st tz time => [byteOf z.val, st.code] ++ tempBytes tz ++ wordBytes time

end Sys2Proof.Machine
end

