-- ==== Sys2Proof/Machine/Doors.lean ====
section
/-! DEFINITION. The Door Sequencer's reports, close-wait, trailer removal and requests (Chapter 4). -/

namespace Sys2Proof.Machine

/-- R83, R187: the part of a door node report that DS takes. -/
structure DoorReport where
  presence : Bool
  pressure : Nat
  position : Position
  obstruction : Bool
  deriving DecidableEq, Repr

/-- R101: the states in which a door should stand closed. -/
def DoorState.standsClosed : DoorState → Bool
  | .vacant | .arrived | .assigned | .inflating | .sealed | .deflating | .released => true
  | _ => false

namespace Dock

/-! ### Trailers leaving (R78, R84, R86) and close-wait (R94) -/

/-- R78: the trailer part of a door removed. -/
def removeTrailer (k : Dock) (d : Fin 16) : Dock :=
  let k1 := k.failTrailer d
  let k2 := k1.relocateSlots (k1.slotsWhere (fun p => decide (p.loc = .at (.trailer d)))) .departed
  (k2.modDoor d ({ · with trailer := none })).clearCondition .sealLost (.door d)

/-- R86: absence reported with the seal or the door engaged. -/
def trailerLeft (k : Dock) (d : Fin 16) : Dock :=
  let k1 := k.cancelThrough d
  let k2 := if (k1.doors[d]).state.notClosed then k1.leaveSet d else k1
  let k3 := (k2.removeTrailer d).modDoor d ({ · with closeRequested := false, sealLost := false })
  ((k3.command (blowerOf d) .off).enterState d .fault).raise .trailerLeft (.door d)

/-- R94: the close-wait timer of a door expires. -/
def closeWaitExpiry (k : Dock) (d : Fin 16) : Dock :=
  if k.due (k.doors[d]).timers.closeWait (k.doors[d]).config.closeWait then
    ((k.cancelThrough d).raise .closeForced (.door d)).closeOrFault d
  else k

/-! ### Reports (R83) -/

/-- R83 step 1. -/
def recordReport (k : Dock) (d : Fin 16) (rep : DoorReport) : Dock :=
  k.modDoor d (fun dr =>
    { dr with presence := rep.presence, pressure := rep.pressure, position := rep.position })

/-- R104: the state derived in RESYNC. -/
def derivedState (dr : Door) (rep : DoorReport) : DoorState :=
  if rep.presence = false then .vacant
  else if dr.trailer.isNone then .arrived
  else if rep.position ≠ .closed then .fault
  else if dr.config.hold ≤ rep.pressure then .sealed
  else .assigned

/-- R83 step 2, R104: the RESYNC derivation. That the DOOR_FORCED condition is cleared before the trailer
part is removed is the model's choice (notes/assumptions/4.md), and so is that SEAL_LOST is left to the next
report (notes/assumptions/24.md). -/
def derive (k : Dock) (d : Fin 16) (rep : DoorReport) : Dock :=
  let st := derivedState k.doors[d] rep
  let k1 := k.modDoor d (fun dr =>
    { dr with sealLost := false, retry := 0, timers := { dr.timers with leakGrace := none } })
  let k2 := if rep.position = .closed then k1.clearCondition .doorForced (.door d) else k1
  let k3 := if rep.presence = false ∧ (k.doors[d]).trailer.isSome = true then k2.removeTrailer d else k2
  let k4 := if st = .fault then k3.raise .doorForced (.door d) else k3
  k4.changeState d st

/-- R83 step 3, R84: presence or absence acted on. -/
def actPresence (k : Dock) (d : Fin 16) (rep : DoorReport) : Dock :=
  let st := (k.doors[d]).state
  if rep.presence then
    if st = .vacant then k.changeState d .arrived else k
  else match st with
    | .arrived => k.changeState d .vacant
    | .assigned | .released => (k.removeTrailer d).changeState d .vacant
    | .inflating | .sealed | .opening | .open | .closePending | .closing | .deflating => k.trailerLeft d
    | .vacant | .fault | .outOfService | .resync => k

/-- R83 step 4, R101: the test for a forced door. -/
def isForced (k : Dock) (d : Fin 16) (rep : DoorReport) : Bool :=
  (k.doors[d]).state.standsClosed && decide (rep.position ≠ .closed)

/-- R101. -/
def forced (k : Dock) (d : Fin 16) : Dock := (k.raise .doorForced (.door d)).changeState d .fault

/-- R83 step 5, R96: an obstruction indication in CLOSING. -/
def actObstruction (k : Dock) (d : Fin 16) (rep : DoorReport) : Dock :=
  if rep.obstruction = true ∧ (k.doors[d]).state = .closing then
    let n := min 3 ((k.doors[d]).retry + 1)
    let k1 := (k.modDoor d ({ · with retry := n })).changeState d .opening
    if n = 3 then
      (k1.modDoor d ({ · with closeRequested := false })).raise .doorObstructed (.door d)
    else k1
  else k

/-- R95: a completed close. The drive's STOP, which R95 lists in its step 1, is the one of the entry into the
new state (R80), commanded after DOOR_OBSTRUCTED is cleared: the model's choice (notes/assumptions/4.md). -/
def completeClose (k : Dock) (d : Fin 16) : Dock :=
  let k1 := (k.modDoor d ({ · with retry := 0, closeRequested := false })).clearCondition
    .doorObstructed (.door d)
  if (k.doors[d]).config.hold ≤ (k.doors[d]).pressure ∧ (k.doors[d]).sealLost = false then
    k1.changeState d .sealed
  else k1.changeState d .inflating

/-- R83 step 6, R90, R95: the end positions. -/
def actTravel (k : Dock) (d : Fin 16) (rep : DoorReport) : Dock :=
  match (k.doors[d]).state, rep.position with
  | .opening, .open => k.changeState d .open
  | .closing, .closed => k.completeClose d
  | _, _ => k

/-- R98: leak timing on one report. -/
def actLeak (k : Dock) (d : Fin 16) (rep : DoorReport) : Dock :=
  let dr := k.doors[d]
  if dr.state.leakTimed then
    if dr.config.hold ≤ rep.pressure then k.modTimers d ({ · with leakGrace := none })
    else if rep.pressure < dr.config.low ∧ dr.timers.leakGrace = none ∧ dr.sealLost = false then
      k.modTimers d ({ · with leakGrace := some k.running })
    else k
  else k

/-- R83 step 7: SEAL_LOST clearing, inflation, deflation, leak timing. -/
def actPressure (k : Dock) (d : Fin 16) (rep : DoorReport) : Dock :=
  let c := (k.doors[d]).config
  let k1 := if c.hold ≤ rep.pressure then k.clearCondition .sealLost (.door d) else k
  let k2 :=
    if (k1.doors[d]).state = .inflating ∧ c.hold ≤ rep.pressure then k1.changeState d .sealed else k1
  let k3 :=
    if (k2.doors[d]).state = .deflating ∧ rep.pressure ≤ c.release then k2.changeState d .released
    else k2
  k3.actLeak d rep

/-- R83 steps 5 to 7. -/
def actRest (k : Dock) (d : Fin 16) (rep : DoorReport) : Dock :=
  ((k.actObstruction d rep).actTravel d rep).actPressure d rep

/-- R83: a door node report taken as one event. -/
def doorReport (k : Dock) (d : Fin 16) (rep : DoorReport) : Dock :=
  let k1 := k.recordReport d rep
  match (k1.doors[d]).state with
  | .resync => k1.derive d rep
  | .fault | .outOfService => k1
  | st =>
    let k2 := k1.actPresence d rep
    let st2 := (k2.doors[d]).state
    if st2 ≠ st ∧ (st2 = .vacant ∨ st2 = .fault) then k2
    else if k2.isForced d rep then k2.forced d
    else k2.actRest d rep

/-! ### Requests (R77, R85, R87 to R89, R92, R100, R103, R106) -/

/-- The door of a request: a number outside 0–15 is refused BAD_ARG, an unfitted door NO_SUCH. -/
def doorOf (k : Dock) (b : Byte) : Except Status (Fin 16) :=
  match indexOf 16 b with
  | none => .error .badArg
  | some d => if k.doorFitted d then .ok d else .error .noSuch

/-- R77 check 1: the fields of SET_DOOR within their ranges. -/
def doorConfigOk (a : SetDoor) : Bool :=
  within 1 15 a.weight.toNat && within 100 2500 a.hold.toNat && within 50 2500 a.low.toNat &&
  decide (a.release.toNat ≤ 2500) && within 10 300 a.inflateTimeout.toNat &&
  within 5 120 a.travelTimeout.toNat && within 1 60 a.leakGrace.toNat &&
  within 30 900 a.closeWait.toNat && decide (a.low.toNat < a.hold.toNat) &&
  decide (a.release.toNat < a.low.toNat)

/-- R76: the configuration that SET_DOOR writes. -/
def doorConfigOf (a : SetDoor) (z : Fin 8) : DoorConfig :=
  { dockZone := some z, weight := a.weight.toNat, hold := a.hold.toNat, low := a.low.toNat,
    release := a.release.toNat, inflateTimeout := a.inflateTimeout.toNat,
    travelTimeout := a.travelTimeout.toNat, leakGrace := a.leakGrace.toNat,
    closeWait := a.closeWait.toNat }

/-- R77: SET_DOOR. -/
def setDoor (k : Dock) (a : SetDoor) : Dock × Reply :=
  match indexOf 16 a.door, indexOf 8 a.dockZone, doorConfigOk a with
  | some d, some z, true =>
    if ¬ (k.doorFitted d = true ∧ k.zoneFitted z = true) then refuse k .noSuch
    else if (k.zones[z]).kind ≠ .dock then refuse k .badState
    else
      let moved := decide ((k.doors[d]).config.dockZone ≠ some z)
      if moved = true ∧ ((k.doors[d]).state.notClosed = true ∨ k.spotWaiting (.trailer d) = true) then
        refuse k .inUse
      else
        let k1 := if moved then k.accrueTrailer d else k
        let k2 := k1.modDoor d ({ · with config := doorConfigOf a z })
        accept k2 (k2.doorConfigBytes d)
  | _, _, _ => refuse k .badArg

/-- R85, R216: the direction and capacity bytes of ASSIGN_TRAILER; a capacity byte of 0 is absent. -/
def directionOf (dir cap : Byte) : Option Direction :=
  match dir.toNat with
  | 0 => if cap = 0 then some .inbound else none
  | 1 => if within 1 40 cap.toNat then some (.outbound cap.toNat 0 0) else none
  | _ => none

/-- R85: ASSIGN_TRAILER. -/
def assignTrailer (k : Dock) (a : AssignTrailer) : Dock × Reply :=
  match indexOf 16 a.door, directionOf a.direction a.capacity with
  | some d, some dir =>
    if k.doorFitted d = false then refuse k .noSuch
    else if (k.doors[d]).state ≠ .arrived then refuse k .badState
    else accept ((k.modDoor d ({ · with trailer := some { id := a.trailerId, direction := dir } })
      ).changeState d .assigned)
  | _, _ => refuse k .badArg

/-- R87: DOCK. -/
def dockDoor (k : Dock) (b : Byte) : Dock × Reply :=
  match k.doorOf b with
  | .error st => refuse k st
  | .ok d =>
    let dr := k.doors[d]
    if dr.state ≠ .assigned ∧ dr.state ≠ .released then refuse k .badState
    else if dr.config.dockZone = none then refuse k .badState
    else accept (k.changeState d .inflating)

/-- R88: UNDOCK. -/
def undockDoor (k : Dock) (b : Byte) : Dock × Reply :=
  match k.doorOf b with
  | .error st => refuse k st
  | .ok d =>
    match (k.doors[d]).state with
    | .sealed => accept (k.changeState d .deflating)
    | .assigned => accept (k.changeState d .released)
    | .released => accept k
    | _ => refuse k .badState

/-- R89: OPEN_DOOR. That check 4 uses the hold pressure of a SET_DOOR at once, before the next report (R77), is
the model's choice (notes/assumptions/22.md). -/
def openDoor (k : Dock) (b : Byte) : Dock × Reply :=
  match k.doorOf b with
  | .error st => refuse k st
  | .ok d =>
    let dr := k.doors[d]
    if k.plantStop then refuse k .held
    else if dr.state ≠ .sealed ∨ dr.pressure < dr.config.hold then refuse k .badState
    else match dr.config.dockZone with
      | none => refuse k .badState
      | some z =>
        match (k.defrosts[z]).phase with
        | .holding | .defrosting | .dripping => refuse k .defrostPending
        | _ => accept (k.changeState d .opening)

/-- R92: CLOSE_DOOR. -/
def closeDoor (k : Dock) (b : Byte) : Dock × Reply :=
  match k.doorOf b with
  | .error st => refuse k st
  | .ok d =>
    let dr := k.doors[d]
    if k.plantStop then refuse k .held
    else match dr.state with
      | .open =>
        (k.takeClose d, { status := if dr.through = 0 then .ok else .pending })
      | .opening => (k.takeClose d, { status := if dr.retry = 0 then .ok else .pending })
      | .closePending => (k, { status := .pending })
      | .closing => accept k
      | _ => refuse k .badState

/-- R100: SERVICE_DOOR. -/
def serviceDoor (k : Dock) (b : Byte) : Dock × Reply :=
  match k.doorOf b with
  | .error st => refuse k st
  | .ok d =>
    match (k.doors[d]).state with
    | .fault | .vacant | .arrived | .assigned => accept (k.changeState d .outOfService)
    | _ => refuse k .badState

/-- R103, R138: RETURN_DOOR. That the channels are returned, the blower before the drive, before the entry into
RESYNC and the two clearings is the model's choice (notes/assumptions/4.md). -/
def returnDoor (k : Dock) (b : Byte) : Dock × Reply :=
  match k.doorOf b with
  | .error st => refuse k st
  | .ok d =>
    if (k.doors[d]).state ≠ .outOfService then refuse k .badState
    else
      let k1 := (k.returnChannel (blowerOf d)).returnChannel (driveOf d)
      accept (((k1.changeState d .resync).clearCondition .trailerLeft (.door d)).clearCondition
        .doorTravel (.door d))

/-- R106: READ_DOOR. -/
def readDoor (k : Dock) (b : Byte) : Dock × Reply :=
  match k.doorOf b with
  | .error st => refuse k st
  | .ok d => accept k (k.doorRecord d)

end Dock
end Sys2Proof.Machine
end

