-- ==== Sys2Proof/Machine/Zones.lean ====
section
/-! DEFINITION. The Zone Monitor (Chapter 1): intake, the zone update with what it hands on, the
expiries that cause one, and the zone and probe requests. -/

namespace Sys2Proof.Machine
namespace Dock

/-! ### Intake (R6) -/

/-- R6: a raw reading within the range of a good one. -/
def readingGood (raw : Int) : Bool := withinInt (-600) 600 raw

/-- R6: one reading taken in by one probe. -/
def takeReading (k : Dock) (p : Fin 32) (raw : Int) : Dock :=
  let before := (k.probes[p]).status
  let k1 := k.modProbe p (fun pr =>
    { pr with
      raw := raw
      readTime := k.running
      status := if readingGood raw then .ok else .outOfRange })
  if readingGood raw then k1.clearCondition .probeFault (.probe p)
  else if before = .outOfRange then k1
  else k1.raise .probeFault (.probe p)

/-- R6: the readings of a report given to the bound probes in their order. That one probe's reading is
taken in, with the raising or clearing of its PROBE_FAULT, before the next probe's is the model's choice
(notes/assumptions/4.md). -/
def intake (k : Dock) (z : Fin 8) (readings : List Int) : Dock :=
  ((k.boundProbes z).zip readings).foldl (fun k e => k.takeReading e.1 e.2) k

/-! ### The zone update (R9 to R13) -/

/-- R10: the contributions of a zone's bound probes that are OK. -/
def contributions (k : Dock) (z : Fin 8) : List Int :=
  ((k.boundProbes z).filter (fun p => decide ((k.probes[p]).status = .ok))).map
    (fun p => contribution k.probes[p])

/-- R12: no probe contributes; the high limit stands in. -/
def substitute (k : Dock) (z : Fin 8) : Dock :=
  let zn := k.zones[z]
  let k1 := k.modZone z
    ({ · with tz := zn.highLimit, tempStatus := .substituted, lastUpdate := k.running })
  if zn.tempStatus = .substituted then k1
  else
    let k2 := k1.notify (.zoneStatus z .substituted zn.highLimit k.siteTime)
    if (k.boundProbes z).isEmpty then k2 else k2.raise .probesLost (.zone z)

/-- R10, R11, R12: the mean of at least one contribution. -/
def measured (k : Dock) (z : Fin 8) (cs : List Int) : Dock :=
  let zn := k.zones[z]
  let tz := roundedMean zn.rounding cs.sum cs.length
  let k1 := k.modZone z
    ({ · with
      tz := tz, tempStatus := .valid, lastUpdate := k.running,
      inexact := zn.inexact || meanInexact cs.sum cs.length })
  if zn.tempStatus = .valid then k1
  else (k1.notify (.zoneStatus z .valid tz k.siteTime)).clearCondition .probesLost (.zone z)

/-- R9 step 3. -/
def newTemperature (k : Dock) (z : Fin 8) : Dock :=
  let cs := k.contributions z
  if cs.isEmpty then k.substitute z else k.measured z cs

/-- R9 step 4: the refresh timer of a zone restarted. -/
def restartRefresh (k : Dock) (z : Fin 8) : Dock := k.modZone z ({ · with refresh := some k.running })

/-- R13, R82: the open-time feeds of the doors that open into a DOCK zone. -/
def feedDoors (k : Dock) (z : Fin 8) : Dock :=
  if (k.zones[z]).kind = .dock then
    ((List.finRange 16).filter (fun d =>
      (k.doors[d]).state.notClosed && decide ((k.doors[d]).config.dockZone = some z))).foldl
      (fun k d => k.feed d) k
  else k

/-- R13: the new Tz handed on; the feeds come before the tests of DC (R126, R127, R132). The order of
the watches, and among DC's own acts the first update after a restart, then the recovery test, then the
RECOVERY_LATE comparison, is the model's choice (notes/assumptions/4.md). -/
def handOff (k : Dock) (z : Fin 8) : Dock :=
  (((((k.warmCompare z).coldCompare z).feedDoors z).firstUpdate z).recoveryTest z).clearRecoveryLate z

/-- R9: the zone update; `readings` are those of the report that caused it, if one did. -/
def zoneUpdate (k : Dock) (z : Fin 8) (readings : Option (List Int)) : Dock :=
  let k1 := match readings with
    | none => k
    | some rs => k.intake z rs
  (((k1.accrueWhere (k1.dependsOn z)).newTemperature z).restartRefresh z).handOff z

/-! ### Expiries (R7, R8) -/

/-- R7: the staleness timer of a probe runs. -/
def stalenessDue (k : Dock) (p : Fin 32) : Bool :=
  let pr := k.probes[p]
  (decide (pr.status = .ok) || decide (pr.status = .outOfRange)) &&
    k.due (some pr.readTime) Config.stalenessTime

/-- R7: the staleness timer of a probe expires. -/
def stalenessExpiry (k : Dock) (p : Fin 32) : Dock :=
  if k.stalenessDue p then
    let k1 := k.modProbe p ({ · with status := .stale })
    match (k.probes[p]).bound with
    | none => k1
    | some z => k1.zoneUpdate z none
  else k

/-- R8: the refresh timer of a zone expires. -/
def refreshExpiry (k : Dock) (z : Fin 8) : Dock :=
  if k.due (k.zones[z]).refresh Config.refreshTime then k.zoneUpdate z none else k

/-! ### Requests (R2, R3, R5, R17, R18) -/

/-- R216, R201: the zone of a request; a number outside 0–7 is refused BAD_ARG, an unfitted zone
NO_SUCH. -/
def zoneOf (k : Dock) (b : Byte) : Except Status (Fin 8) :=
  match indexOf 8 b with
  | none => .error .badArg
  | some z => if k.zoneFitted z then .ok z else .error .noSuch

/-- R2 check 2: the numbers of SET_ZONE within their ranges. -/
def zoneFieldsOk (a : SetZone) : Bool :=
  withinInt (-500) 500 a.setPoint.toInt && withinInt (-500) 500 a.highLimit.toInt &&
  withinInt (-500) 500 a.lowLimit.toInt && within 30 3600 a.alarmDelay.toNat &&
  decide (a.lowLimit.toInt < a.highLimit.toInt) &&
  withinInt a.lowLimit.toInt a.highLimit.toInt a.setPoint.toInt

/-- R3: the zone is in use as its present kind. -/
def zoneInUse (k : Dock) (z : Fin 8) : Bool :=
  (List.finRange 16).any (fun d => decide ((k.doors[d]).config.dockZone = some z)) ||
  (List.finRange 24).any (fun l => k.laneFitted l && decide ((k.lanes[l]).zone = z)) ||
  k.pallets.any (fun e => decide (e.2.loc = .at (.room z))) ||
  k.spotWaiting (.room z)

/-- R2: SET_ZONE; the reply's INEXACT flag is the one before the request (R218,
notes/assumptions/20.md). -/
def setZone (k : Dock) (a : SetZone) : Dock × Reply :=
  match k.zoneOf a.zone with
  | .error st => refuse k st
  | .ok z =>
    match readZoneKind a.kind, readRounding a.rounding, zoneFieldsOk a with
    | some kind, some mode, true =>
      if kind ≠ (k.zones[z]).kind ∧ k.zoneInUse z = true then refuse k .inUse
      else
        let k1 := (k.modZone z
          ({ · with
            kind := kind, setPoint := a.setPoint.toInt, highLimit := a.highLimit.toInt,
            lowLimit := a.lowLimit.toInt, alarmDelay := a.alarmDelay.toNat, rounding := mode
          })).zoneUpdate z none
        accept k1 (k1.zoneRecord z (k.zones[z]).inexact)
    | _, _, _ => refuse k .badArg

/-- R5, R217: the target of SET_PROBE; 0xFF is unbind. -/
def probeTarget (k : Dock) (b : Byte) : Except Status (Option (Fin 8)) :=
  if b = 0xFF then .ok none else (k.zoneOf b).map some

/-- R5 check 3: the zone has four bound probes, this one not among them. -/
def zoneFull (k : Dock) (p : Fin 32) (z : Fin 8) : Bool :=
  decide (4 ≤ (k.boundProbes z).length) && decide ((k.probes[p]).bound ≠ some z)

/-- R5, R12: what follows when a probe has left a zone's list. That its PROBE_FAULT is cleared before
the zone's PROBES_LOST is the model's choice (notes/assumptions/4.md). -/
def probeLeft (k : Dock) (p : Fin 32) (z : Fin 8) : Dock :=
  let k1 := k.clearCondition .probeFault (.probe p)
  if (k1.boundProbes z).isEmpty then k1.clearCondition .probesLost (.zone z) else k1

/-- R5: the table of effects, after the offset is written. That what a leaving probe clears is cleared before
the updates, and that the left zone is updated first, is the model's choice (notes/assumptions/4.md). -/
def bindProbe (k : Dock) (p : Fin 32) (target : Option (Fin 8)) : Dock :=
  match (k.probes[p]).bound, target with
  | some a, some b =>
    if a = b then k.zoneUpdate a none
    else
      (((k.modProbe p
        ({ · with bound := some b, raw := 0, readTime := k.running, status := .stale })
        ).probeLeft p a).zoneUpdate a none).zoneUpdate b none
  | some a, none =>
    ((k.modProbe p ({ · with bound := none, raw := 0, status := .unbound })).probeLeft p a).zoneUpdate
      a none
  | none, some b =>
    (k.modProbe p
      ({ · with bound := some b, raw := 0, readTime := k.running, status := .stale })).zoneUpdate b none
  | none, none => k

/-- R5: SET_PROBE. -/
def setProbe (k : Dock) (a : SetProbe) : Dock × Reply :=
  match indexOf 32 a.probe, withinInt (-50) 50 a.offset.toInt with
  | some p, true =>
    match k.probeTarget a.target with
    | .error st => refuse k st
    | .ok target =>
      let full := match target with
        | none => false
        | some z => k.zoneFull p z
      if full then refuse k .full
      else
        let k1 := (k.modProbe p ({ · with offset := a.offset.toInt })).bindProbe p target
        accept k1 (k1.probeRecord p)
  | _, _ => refuse k .badArg

/-- R17: READ_ZONE. That an unfitted zone is refused NO_SUCH before the clear byte is judged (R216) is the
model's choice (notes/assumptions/21.md). -/
def readZone (k : Dock) (zone clear : Byte) : Dock × Reply :=
  match k.zoneOf zone with
  | .error st => refuse k st
  | .ok z =>
    match readBit clear with
    | none => refuse k .badArg
    | some c =>
      accept (if c then k.modZone z ({ · with inexact := false }) else k)
        (k.zoneRecord z (k.zones[z]).inexact)

/-- R18: READ_PROBE. -/
def readProbe (k : Dock) (probe : Byte) : Dock × Reply :=
  match indexOf 32 probe with
  | none => refuse k .badArg
  | some p => accept k (k.probeRecord p)

end Dock
end Sys2Proof.Machine
end

