-- ==== Sys2Proof/Machine/PalletRequests.lean ====
section
/-! DEFINITION. The requests of the Pallet Table: classes, admission, amendment, reading, listing and
release (R22, R25, R26, R39 to R43). -/

namespace Sys2Proof.Machine

/-- R22: the fields of SET_CLASS within their ranges. -/
def classFieldsOk (a : SetClass) : Bool :=
  withinInt (-400) 100 a.limit.toInt && within 1 64 a.weight.toNat &&
  decide (a.budget ≠ 0) && decide (a.warn ≠ 0)

/-- R21: the class record that SET_CLASS writes. -/
def classOf (a : SetClass) : PalletClass :=
  { limit := a.limit.toInt, weight := a.weight.toNat, budget := a.budget.toNat, warn := a.warn.toNat }

/-- R25: an entry of ADMIT whose fields are within range. -/
structure Entry where
  tag : Word
  cls : Fin 8
  override : Option Nat
  deriving DecidableEq, Repr

/-- R216: the budget override; the budget bytes are ignored when the presence byte is 0. That a presence byte
above 1 is refused at check 1 of R25 is the model's choice (notes/assumptions/21.md). -/
def readOverride (present : Byte) (budget : Half) : Option (Option Nat) :=
  match readBit present with
  | none => none
  | some false => some none
  | some true => if budget = 0 then none else some (some budget.toNat)

/-- R25 check 1, for one entry. -/
def readEntry (e : AdmitEntry) : Option Entry :=
  match indexOf 8 e.cls, readOverride e.present e.budget with
  | some c, some o => if e.tag = 0 then none else some { tag := e.tag, cls := c, override := o }
  | _, _ => none

/-- Every element read, or none. -/
def readEvery {α β : Type} (f : α → Option β) : List α → Option (List β)
  | [] => some []
  | a :: rest =>
    match f a, readEvery f rest with
    | some b, some bs => some (b :: bs)
    | _, _ => none

/-- R25 check 1: the location is of kind TRAILER or LANE, with an index in range. -/
def readAdmitSpot (l : RawLoc) : Option Spot :=
  match readSpot l with
  | some (.room _) => none
  | s => s

/-- R39: the changes of an amendment. -/
structure Changes where
  budget : Option Nat
  cls : Option (Fin 8)
  quarantineSet : Bool
  quarantineClear : Bool
  deriving DecidableEq, Repr

/-- R39 check 1, R216: the change mask and the fields that it names. That an undefined mask bit is refused at
check 1 is the model's choice (notes/assumptions/21.md). -/
def readChanges (a : AmendPallet) : Option Changes :=
  let newBudget := a.mask.getLsbD 0
  let newClass := a.mask.getLsbD 1
  let c : Changes :=
    { budget := if newBudget then some a.budget.toNat else none
      cls := if newClass then indexOf 8 a.cls else none
      quarantineSet := a.mask.getLsbD 2
      quarantineClear := a.mask.getLsbD 3 }
  if a.tag = 0 ∨ a.mask = 0 ∨ 16 ≤ a.mask.toNat ∨ (c.quarantineSet && c.quarantineClear) = true ∨
      c.budget = some 0 ∨ (newClass = true ∧ c.cls = none) then none
  else some c

/-- R39 check 2: the changes that the floor link may not make. -/
def Changes.supervisor (c : Changes) : Bool := c.budget.isSome || c.cls.isSome || c.quarantineClear

/-- R40 steps 2 to 5. -/
def Changes.apply (c : Changes) (p : Pallet) : Pallet :=
  { p with
    budget := c.budget.getD p.budget
    cls := c.cls.getD p.cls
    quarantine := (p.quarantine || c.quarantineSet) && !c.quarantineClear
    revision := p.revision + 1 }

namespace Dock

/-- R22: SET_CLASS. -/
def setClass (k : Dock) (a : SetClass) : Dock × Reply :=
  match indexOf 8 a.cls, classFieldsOk a with
  | some c, true =>
    let slots := k.slotsWhere (fun p => decide (p.cls = c))
    let k1 := k.accrueSlots slots
    let k2 := slots.foldl (fun k slot => k.regrade slot)
      { k1 with classes := tmod k1.classes c (fun _ => classOf a) }
    accept k2 (k2.classRecord c)
  | _, _ => refuse k .badArg

/-- R22: READ_CLASS. -/
def readClass (k : Dock) (b : Byte) : Dock × Reply :=
  match indexOf 8 b with
  | none => refuse k .badArg
  | some c => accept k (k.classRecord c)

/-- R25 check 3: a door that takes admissions has an inbound trailer part. -/
def takesAdmission (k : Dock) : Spot → Bool
  | .trailer d =>
    match (k.doors[d]).trailer with
    | some { direction := .inbound, .. } => true
    | _ => false
  | _ => true

/-- R25 check 6: the lane has room for that many more. -/
def laneTakes (k : Dock) (n : Nat) : Spot → Bool
  | .lane l => decide ((k.lanes[l]).occupied + (k.lanes[l]).reserved + n ≤ (k.lanes[l]).capacity)
  | _ => true

/-- R25: the checks after the first, in their order. -/
def admitRefusal (k : Dock) (spot : Spot) (entries : List Entry) : Option Status :=
  if k.spotFitted spot = false then some .noSuch
  else if k.takesAdmission spot = false then some .badState
  else if entries.any (fun e => (k.findTag e.tag).isSome) = true ∨ ¬ (entries.map (·.tag)).Nodup then
    some .duplicate
  else if Config.palletSlots < k.pallets.length + entries.length then some .full
  else if k.laneTakes entries.length spot = false then some .full
  else none

/-- R26: the records of an admission, and the slots they take in entry order. -/
def admitEvery (k : Dock) (spot : Spot) : List Entry → Dock × List Nat
  | [] => (k, [])
  | e :: rest =>
    let r := k.admitOne e.tag e.cls (e.override.getD (k.classes[e.cls]).budget) spot
    let r' := admitEvery r.1 spot rest
    (r'.1, r.2 :: r'.2)

/-- R25, R26: ADMIT. -/
def admitPallets (k : Dock) (a : Admit) : Dock × Reply :=
  match readAdmitSpot a.location, readEvery readEntry a.entries, within 1 16 a.entries.length with
  | some spot, some entries, true =>
    match k.admitRefusal spot entries with
    | some st => refuse k st
    | none =>
      let r := k.admitEvery spot entries
      let k1 := match spot with
        | .lane l => r.1.modLane l (fun ln => { ln with occupied := ln.occupied + entries.length })
        | _ => r.1
      accept k1 (byteOf entries.length :: r.2.flatMap numBytes2)
  | _, _, _ => refuse k .badArg

/-- A record is located in TRANSIT. -/
def inTransit (p : Pallet) : Bool :=
  match p.loc with
  | .transit _ _ => true
  | _ => false

/-- R39, R40: AMEND_PALLET from a link. -/
def amendPallet (k : Dock) (l : Link) (a : AmendPallet) : Dock × Reply :=
  match readChanges a with
  | none => refuse k .badArg
  | some c =>
    if l = .floor ∧ c.supervisor = true then refuse k .notPermitted
    else match k.findTag a.tag with
      | none => refuse k .noSuch
      | some (slot, p) =>
        if a.revision ≠ p.revision then (k, { status := .stale, data := halfBytes p.revision })
        else if c.cls.isSome = true ∧ inTransit p = true then refuse k .badState
        else
          let k1 := ((k.accrue slot).modPallet slot c.apply).regrade slot
          accept k1 (k1.palletRecordAt slot)

/-- R41: READ_PALLET. -/
def readPallet (k : Dock) (tag : Word) : Dock × Reply :=
  if tag = 0 then refuse k .badArg
  else match k.findTag tag with
    | none => refuse k .noSuch
    | some e =>
      let k1 := k.accrue e.1
      accept k1 (k1.palletRecordAt e.1)

/-- R42: a filter names a door, lane or zone that is not fitted. -/
def filterFitted (k : Dock) : Filter → Bool
  | .spot s => k.spotFitted s
  | _ => true

/-- R42: the slots that a walk takes into its reply. -/
def listedSlots (k : Dock) (f : Filter) (start : Nat) : List Nat :=
  (k.slotsWhere (fun p => f.admits p.loc)).filter (fun slot => decide (start ≤ slot)) |>.take 16

/-- R42: the next slot, after the sixteenth record taken or at the end of the table. -/
def nextSlot (slots : List Nat) : Nat :=
  match slots[15]? with
  | none => Config.palletSlots
  | some s => s + 1

/-- R42: LIST_PALLETS. That the start slot is judged before the fitting of what the filter names is the model's
choice (notes/assumptions/21.md). -/
def listPallets (k : Dock) (a : ListPallets) : Dock × Reply :=
  match readFilter a.filter with
  | none => refuse k .badArg
  | some f =>
    if Config.palletSlots < a.start.toNat then refuse k .badArg
    else if k.filterFitted f = false then refuse k .noSuch
    else
      let slots := k.listedSlots f a.start.toNat
      let k1 := k.accrueSlots slots
      accept k1 (numBytes2 (nextSlot slots) ++ [byteOf slots.length] ++
        slots.flatMap k1.palletSummaryAt)

/-- R43: RELEASE_PALLET. -/
def releasePallet (k : Dock) (tag : Word) : Dock × Reply :=
  if tag = 0 then refuse k .badArg
  else match k.findTag tag with
    | none => refuse k .noSuch
    | some (slot, p) =>
      if p.loc ≠ .departed ∧ p.loc ≠ .adrift then refuse k .badState
      else if k.tagWaiting tag then refuse k .inUse
      else
        let k1 := k.accrue slot
        accept ((k1.clearCondition .exposureSpent (.pallet tag)).emptySlot slot)
          (k1.palletRecordAt slot)

end Dock
end Sys2Proof.Machine
end

