-- ==== Sys2Proof/Machine/RingRequests.lean ====
section
/-! DEFINITION. The requests of the Move Engine: lanes (R47, R48), posting (R53, R54) and the rings
(R55 to R61). -/

namespace Sys2Proof.Machine

/-- R50: the door of a door ring; none for a putaway ring. -/
def ringDoor (r : Fin 20) : Option (Fin 16) := if h : r.val < 16 then some ⟨r.val, h⟩ else none

/-- R51: a posted allowance; 0 is stored as 600. -/
def readAllowance (a : Half) : Option Nat :=
  if a = 0 then some 600 else if within 30 1800 a.toNat then some a.toNat else none

/-- A location is a trailer. -/
def Spot.isTrailer : Spot → Bool
  | .trailer _ => true
  | _ => false

/-- R53 check 1: the endpoints that a ring allows. -/
def ringAllows (r : Fin 20) (src dst : Spot) : Bool :=
  match ringDoor r with
  | some d => decide (src = .trailer d) || decide (dst = .trailer d)
  | none => !src.isTrailer && !dst.isTrailer

/-- R53 check 1, R54: one descriptor, as it would be written. That an undefined flag bit (R216) is refused at
check 1 is the model's choice (notes/assumptions/21.md). -/
def readMove (r : Fin 20) (m : RawMove) : Option Descriptor :=
  match readSpot m.source, readSpot m.dest, readAllowance m.allowance, readBit m.flags with
  | some src, some dst, some allowance, some notify =>
    if m.tag = 0 ∨ src = dst ∨ ringAllows r src dst = false then none
    else some { tag := m.tag, source := src, dest := dst, notify := notify, allowance := allowance,
                status := .pending, overdue := false, pickTime := none }
  | _, _, _, _ => none

namespace Dock

/-! ### Lanes (R47, R48) -/

/-- R47 check 4: a PICKED descriptor names the lane as its source. -/
def pickedFrom (k : Dock) (s : Spot) : Bool :=
  k.waitingAll.any (fun m => decide (m.status = .picked) && decide (m.source = s))

/-- R47 checks 3 to 5. -/
def laneInUse (k : Dock) (l : Fin 24) (zone : Fin 8) (capacity : Nat) : Bool :=
  let ln := k.lanes[l]
  decide (capacity < ln.occupied + ln.reserved) ||
  (decide (zone ≠ ln.zone) &&
    (decide (0 < ln.occupied + ln.reserved) || k.pickedFrom (.lane l))) ||
  (decide (capacity = 0) && k.spotWaiting (.lane l))

/-- R47: SET_LANE. -/
def setLane (k : Dock) (a : SetLane) : Dock × Reply :=
  match indexOf 24 a.lane, indexOf 8 a.zone, readLaneState a.state, within 0 12 a.capacity.toNat with
  | some l, some z, some st, true =>
    if k.zoneFitted z = false then refuse k .noSuch
    else if k.laneInUse l z a.capacity.toNat then refuse k .inUse
    else
      let k1 := k.modLane l ({ · with zone := z, capacity := a.capacity.toNat, state := st })
      accept k1 (k1.laneRecord l)
  | _, _, _, _ => refuse k .badArg

/-- R48: the lane of BLOCK_LANE or UNBLOCK_LANE. -/
def laneOf (k : Dock) (b : Byte) : Except Status (Fin 24) :=
  match indexOf 24 b with
  | none => .error .badArg
  | some l => if k.laneFitted l then .ok l else .error .noSuch

/-- R48: the state of a lane written. -/
def setLaneState (k : Dock) (b : Byte) (st : LaneState) : Dock × Reply :=
  match k.laneOf b with
  | .error e => refuse k e
  | .ok l => accept (k.modLane l ({ · with state := st }))

/-- R48: READ_LANE. -/
def readLane (k : Dock) (b : Byte) : Dock × Reply :=
  match indexOf 24 b with
  | none => refuse k .badArg
  | some l => accept k (k.laneRecord l)

/-! ### Posting (R53, R54) -/

/-- R53 check 2: the door of a door ring is fitted. -/
def ringFitted (k : Dock) (r : Fin 20) : Bool :=
  match ringDoor r with
  | some d => k.doorFitted d
  | none => true

/-- R53 check 3: a location that may be a source. -/
def sourceOk (k : Dock) : Spot → Bool
  | .trailer d =>
    match (k.doors[d]).trailer with
    | some { direction := .inbound, .. } => true
    | _ => false
  | .room z => decide ((k.zones[z]).kind = .frozenRoom)
  | .lane _ => true

/-- R53 check 3: a location that may be a destination. -/
def destOk (k : Dock) : Spot → Bool
  | .trailer d =>
    match (k.doors[d]).trailer with
    | some { direction := .outbound _ _ _, .. } => true
    | _ => false
  | .room z => decide ((k.zones[z]).kind = .frozenRoom)
  | .lane _ => true

/-- R53: the checks after the first, in their order. -/
def postRefusal (k : Dock) (r : Fin 20) (ms : List Descriptor) : Option Status :=
  if k.ringFitted r = false ∨
      ms.all (fun m => k.spotFitted m.source && k.spotFitted m.dest) = false then some .noSuch
  else if ms.all (fun m => k.sourceOk m.source && k.destOk m.dest) = false then some .badState
  else if ms.any (fun m => k.tagWaiting m.tag) = true ∨ ¬ (ms.map (·.tag)).Nodup then some .duplicate
  else if Config.ringSize < (k.rings[r]).waiting.length + ms.length then some .full
  else none

/-- R53, R54: POST_MOVES; the reply carries a count, the positions and the new waiting count. -/
def postMoves (k : Dock) (a : PostMoves) : Dock × Reply :=
  match indexOf 20 a.ring with
  | none => refuse k .badArg
  | some r =>
    match readEvery (readMove r) a.moves, within 1 8 a.moves.length with
    | some ms, true =>
      match k.postRefusal r ms with
      | some st => refuse k st
      | none =>
        let before := (k.rings[r]).waiting.length
        accept (k.modRing r (fun ring => { ring with waiting := ring.waiting ++ ms }))
          (byteOf ms.length ::
            (List.range ms.length).map (fun i => byteOf ((k.rings[r]).positionOf (before + i)).val) ++
            [byteOf (before + ms.length)])
    | _, _ => refuse k .badArg

/-! ### Ring requests (R55 to R61) -/

/-- R55: the checks that come before the state tables. -/
def ringOf (k : Dock) (b : Byte) : Except Status (Fin 20) :=
  match indexOf 20 b with
  | none => .error .badArg
  | some r => if k.ringFitted r then .ok r else .error .noSuch

/-- R56: RUN_RING. -/
def runRing (k : Dock) (b : Byte) : Dock × Reply :=
  match k.ringOf b with
  | .error e => refuse k e
  | .ok r =>
    if (k.rings[r]).state = .halted ∧ (k.rings[r]).waiting.isEmpty = true then accept k
    else accept (k.modRing r ({ · with state := .run }))

/-- R57: PAUSE_RING. -/
def pauseRing (k : Dock) (b : Byte) : Dock × Reply :=
  match k.ringOf b with
  | .error e => refuse k e
  | .ok r =>
    if (k.rings[r]).state = .halted then refuse k .badState
    else accept (k.modRing r ({ · with state := .paused }))

/-- The head of a ring is PICKED. -/
def headPicked (k : Dock) (r : Fin 20) : Bool :=
  match (k.rings[r]).waiting.head? with
  | none => false
  | some m => decide (m.status = .picked)

/-- R58: CLEAR_RING. -/
def clearRing (k : Dock) (b : Byte) : Dock × Reply :=
  match k.ringOf b with
  | .error e => refuse k e
  | .ok r =>
    if k.headPicked r then refuse k .badState
    else
      accept (k.modRing r (fun ring =>
        { ring with head := ring.tail, waiting := [], state := .halted }))
        [byteOf (k.rings[r]).waiting.length]

/-- R59: CANCEL_HEAD. -/
def cancelHead (k : Dock) (b : Byte) : Dock × Reply :=
  match k.ringOf b with
  | .error e => refuse k e
  | .ok r =>
    match (k.rings[r]).waiting.head? with
    | none => refuse k .badState
    | some m =>
      let data := k.descriptorRecord (k.rings[r]).head { m with status := .cancelled }
      if m.status = .picked then accept (k.cancelPicked r m none) data
      else accept (k.advance r { m with status := .cancelled }) data

/-- R61: READ_RING. That an undefined bit of the clear options (R216) is judged after the two checks of R55, as
the offset is, is the model's choice (notes/assumptions/21.md). -/
def readRing (k : Dock) (a : ReadRing) : Dock × Reply :=
  match k.ringOf a.ring with
  | .error e => refuse k e
  | .ok r =>
    if 31 < a.offset.toNat ∨ 3 < a.clear.toNat then refuse k .badArg
    else
      accept (k.modRing r (fun ring =>
        { ring with
          drained := ring.drained && !a.clear.getLsbD 0
          unplanned := ring.unplanned && !a.clear.getLsbD 1 }))
        (k.ringReply r a.offset.toNat)

end Dock
end Sys2Proof.Machine
end

