-- ==== Sys2Proof/Machine/PlantRequests.lean ====
section
/-! DEFINITION. The requests of the Defrost Controller (R111, R112, R115, R117, R129, R130), of Output
Channels (R137, R145) and of the Alarm List (R155, R156, R158, R160). -/

namespace Sys2Proof.Machine

/-- R111 check 1: the fields of SET_DEFROST within their ranges. -/
def defrostFieldsOk (a : SetDefrost) : Bool :=
  decide (a.threshold ≠ 0) && within 3600 86400 a.maxInterval.toNat && decide (a.quantum ≠ 0) &&
  withinInt 0 250 a.termination.toInt && within 300 3600 a.maxDuration.toNat &&
  decide (a.dripTime.toNat ≤ 900) && within 300 7200 a.recoveryTimeout.toNat &&
  within 300 7200 a.maxDeferral.toNat

/-- R110: the configuration that SET_DEFROST writes. -/
def defrostConfigOf (a : SetDefrost) : DefrostConfig :=
  { threshold := a.threshold.toNat, maxInterval := a.maxInterval.toNat, quantum := a.quantum.toNat,
    termination := a.termination.toInt, maxDuration := a.maxDuration.toNat,
    dripTime := a.dripTime.toNat, recoveryTimeout := a.recoveryTimeout.toNat,
    maxDeferral := a.maxDeferral.toNat }

namespace Dock

/-! ### Defrost -/

/-- R111, R114: SET_DEFROST; the interval timer is aimed again when the maximum interval changes. -/
def setDefrost (k : Dock) (a : SetDefrost) : Dock × Reply :=
  match indexOf 8 a.zone, defrostFieldsOk a with
  | some z, true =>
    if k.zoneFitted z = false then refuse k .noSuch
    else
      let k1 := (k.modDefrost z (fun df =>
        { df with
          config := defrostConfigOf a
          interval := df.interval || decide (df.config.maxInterval ≠ a.maxInterval.toNat) })).dueTest z
      accept k1 (k1.defrostRecord z)
  | _, _ => refuse k .badArg

/-- R117: SET_SLOTS. -/
def setSlots (k : Dock) (b : Byte) : Dock × Reply :=
  if within 1 4 b.toNat = false then refuse k .badArg
  else if k.slotsHeld ≠ 0 then refuse k .inUse
  else accept ({ k with slotLimit := b.toNat } : Dock).arbiter [b]

/-- R112: READ_DEFROST. -/
def readDefrost (k : Dock) (b : Byte) : Dock × Reply :=
  match k.zoneOf b with
  | .error e => refuse k e
  | .ok z => accept k (k.defrostRecord z ++ [byteOf k.slotLimit, byteOf k.slotsHeld])

/-- R115: REQUEST_DEFROST. -/
def requestDefrost (k : Dock) (b : Byte) : Dock × Reply :=
  match k.zoneOf b with
  | .error e => refuse k e
  | .ok z =>
    match (k.defrosts[z]).phase with
    | .cooling => accept (k.enterDue z)
    | .due => accept k
    | _ => refuse k .badState

/-- R129: INHIBIT_DEFROST. -/
def inhibitDefrost (k : Dock) (b : Byte) : Dock × Reply :=
  match k.zoneOf b with
  | .error e => refuse k e
  | .ok z =>
    match (k.defrosts[z]).phase with
    | .cooling | .due => accept (k.enterPhase z .inhibited)
    | .inhibited => accept k
    | _ => refuse k .badState

/-- R130: RESTORE_DEFROST. -/
def restoreDefrost (k : Dock) (b : Byte) : Dock × Reply :=
  match k.zoneOf b with
  | .error e => refuse k e
  | .ok z =>
    if (k.defrosts[z]).phase ≠ .inhibited then refuse k .badState
    else
      let k1 := ((((k.returnManual (heaterOf z)).returnManual (fansOf z)).enterPhase z .cooling).dueTest z)
      accept k1 [(k1.defrosts[z]).phase.code]

/-! ### Channels -/

/-- R137 check 1: a level that SET_CHANNEL may give to a channel. -/
def readLevel (c : Fin 48) (b : Byte) : Option Level :=
  match channelKind c with
  | .drive => (readDriveLevel b).filter (fun l => decide (l ≠ .open))
  | _ => readSwitchLevel b

/-- R137 check 3: the subject's state permits manual control. -/
def manualAllowed (k : Dock) (c : Fin 48) : Bool :=
  match channelSubject c with
  | .inl d => decide ((k.doors[d]).state = .outOfService)
  | .inr z => decide ((k.defrosts[z]).phase = .inhibited)

/-- R137: SET_CHANNEL. -/
def setChannel (k : Dock) (a : SetChannel) : Dock × Reply :=
  match indexOf 48 a.channel with
  | none => refuse k .badArg
  | some c =>
    match readLevel c a.level with
    | none => refuse k .badArg
    | some level =>
      if k.channelFitted c = false then refuse k .noSuch
      else if k.manualAllowed c = false then refuse k .badState
      else
        let k1 := k.setByHand c level
        accept k1 (k1.channelRecord c)

/-- R145: READ_CHANNEL. -/
def readChannel (k : Dock) (b : Byte) : Dock × Reply :=
  match indexOf 48 b with
  | none => refuse k .badArg
  | some c => if k.channelFitted c then accept k (k.channelReply c) else refuse k .noSuch

/-! ### Alarms -/

/-- R155: the state of an entry after an acknowledgment; none when it is removed. -/
def ackState : AlarmState → Option AlarmState
  | .activeUnack => some .activeAck
  | .activeAck => some .activeAck
  | .clearedUnack => none

/-- R155 check 1: a kind and a subject of the type that R149 gives for it. -/
def readAlarm (a : AckAlarm) : Option (AlarmKind × Subject) :=
  match readAlarmKind a.kind, readSubject a.subjectType a.subjectIndex with
  | some kind, some subj => if subj.type = kind.subjectType then some (kind, subj) else none
  | _, _ => none

/-- R155: ACK_ALARM from a link. -/
def ackAlarm (k : Dock) (l : Link) (a : AckAlarm) : Dock × Reply :=
  match readAlarm a with
  | none => refuse k .badArg
  | some (kind, subj) =>
    if kind = .listOverflow then
      match k.overflow with
      | none => refuse k .noSuch
      | some e => accept (k.ackOverflow l) (alarmRecord 47 e (ackState e.state))
    else match k.alarms.zipIdx.find? (fun e => e.1.matches kind subj) with
      | none => refuse k .noSuch
      | some (e, pos) => accept (k.ackEntry l e) (alarmRecord pos e (ackState e.state))

/-- The number of entries in a state. -/
def countState (entries : List AlarmEntry) (st : AlarmState) : Nat :=
  (entries.filter (fun e => decide (e.state = st))).length

/-- R156: ACK_ALL from a link; the reserved entry is judged as the walk finds it. -/
def ackAll (k : Dock) (l : Link) : Dock × Reply :=
  let k1 := k.alarms.foldl (fun k e => k.ackEntry l e) k
  let met := k.alarms ++ k1.overflow.toList
  let k2 := k.ackEvery l
  accept k2 [byteOf (countState met .activeUnack), byteOf (countState met .clearedUnack),
    byteOf k2.alarms.length]

/-- R158: SET_MASK. That its reply carries the mask table in the three bytes of READ_ALARMS (R218) is the model's
choice (notes/assumptions/2.md). -/
def setMask (k : Dock) (kind setting : Byte) : Dock × Reply :=
  match readAlarmKind kind, readMaskSetting setting with
  | some a, some st =>
    if a.maskable then
      let k1 := ({ k with mask := tmod k.mask a.index (fun _ => st) } : Dock).evalLine
      accept k1 k1.maskBytes
    else refuse k .badArg
  | _, _ => refuse k .badArg

/-- R160: READ_ALARMS. -/
def readAlarms (k : Dock) (start : Byte) : Dock × Reply :=
  if 48 < start.toNat then refuse k .badArg else accept k (k.alarmsReply start.toNat)

end Dock
end Sys2Proof.Machine
end

