-- ==== Sys2Proof/Machine/FieldLoop.lean ====
section
/-! DEFINITION. The Field Loop Master (Chapter 9): polls, replies, misses, lost nodes, and the node and
clock requests. -/

namespace Sys2Proof.Machine

/-! ### Loop frames (R220) -/

/-- A CRC as it is sent, high byte first. -/
def crcBytes (bytes : List Byte) : List Byte := halfBytes (crc bytes)

/-- R220: what a loop frame holds before its CRC, when the CRC is right. -/
def loopBody (bytes : List Byte) : Option (List Byte) :=
  let body := bytes.take (bytes.length - 2)
  if 2 ≤ bytes.length ∧ bytes.drop (bytes.length - 2) = crcBytes body then some body else none

/-- R184, R220: a good report, read. -/
inductive Report where
  | door (rep : DoorReport) (blower drive : Option Level)
  | zone (readings : List Int) (coil : Option Int) (heater fans : Option Level)
  | terminal (scan : Option (ScanKind × Word))
  deriving DecidableEq, Repr

/-- R184, R220: the payload of a door report. -/
def readDoorReport (presence p1 p0 position obstruction blower drive : Byte) : Option Report :=
  match readBit presence, readPosition position, readBit obstruction with
  | some pr, some pos, some ob =>
    some (.door { presence := pr, pressure := min 2500 (toHalf p1 p0).toNat, position := pos,
                  obstruction := ob } (readSwitchLevel blower) (readDriveLevel drive))
  | _, _, _ => none

/-- R220: the readings of a zone report, two bytes each. -/
def readReadings : List Byte → List Int
  | b1 :: b0 :: rest => (toHalf b1 b0).toInt :: readReadings rest
  | _ => []

/-- R184, R220: the coil field; a validity byte other than 1 is the invalid indication. -/
def readCoil (valid c1 c0 : Byte) : Option Int := if valid = 1 then some (toHalf c1 c0).toInt else none

/-- R184, R220: the payload of a zone report. -/
def readZoneReport (count : Byte) (rest : List Byte) : Option Report :=
  if 4 < count.toNat ∨ rest.length ≠ 2 * count.toNat + 5 then none
  else match rest.drop (2 * count.toNat) with
    | [valid, c1, c0, heater, fans] =>
      some (.zone (readReadings (rest.take (2 * count.toNat))) (readCoil valid c1 c0)
        (readSwitchLevel heater) (readSwitchLevel fans))
    | _ => none

/-- R184, R220: the payload of a terminal report. -/
def readTerminalReport (kind : Byte) (tag : Word) : Option Report :=
  match kind.toNat with
  | 0 => some (.terminal none)
  | 1 => if tag = 0 then none else some (.terminal (some (.pick, tag)))
  | 2 => if tag = 0 then none else some (.terminal (some (.place, tag)))
  | _ => none

/-- R183, R220: the report in a reply that arrived within the window; none is a corrupt reply. -/
def readReport (n : Fin 48) (bytes : List Byte) : Option Report :=
  match loopBody bytes with
  | some (address :: kind :: payload) =>
    if address.toNat ≠ n.val + 1 then none
    else match nodeSubject n, payload with
      | .door _, [presence, p1, p0, position, obstruction, blower, drive] =>
        if kind = 0x31 then readDoorReport presence p1 p0 position obstruction blower drive else none
      | .zone _, count :: rest => if kind = 0x32 then readZoneReport count rest else none
      | .terminal _, [scan, t3, t2, t1, t0] =>
        if kind = 0x33 then readTerminalReport scan (toWord t3 t2 t1 t0) else none
      | _, _ => none
  | _ => none

namespace Dock

/-! ### Polls (R181, R182, R220) -/

/-- R181, R220: the kind and the payload of the poll of a node. -/
def pollPayload (k : Dock) (n : Fin 48) : List Byte :=
  match nodeSubject n with
  | .door d =>
    [0x21, (k.channels[blowerOf d]).effective.code, (k.channels[driveOf d]).effective.code]
  | .zone z =>
    [0x22, (k.channels[heaterOf z]).effective.code, (k.channels[fansOf z]).effective.code] ++
      tempBytes (k.zones[z]).setPoint
  | .terminal _ =>
    let nd := k.nodes[n]
    let moves := k.displayMoves nd.binding
    [0x23, nd.verdictCount] ++ k.verdictBytes nd.verdict ++ [byteOf moves.length] ++
      moves.flatMap (fun m => wordBytes m.tag ++ spotBytes m.dest)

/-- R220: the poll of a node as it is sent. -/
def pollFrame (k : Dock) (n : Fin 48) : List Byte :=
  let body := byteOf (n.val + 1) :: k.pollPayload n
  body ++ crcBytes body

/-- R180: the next fitted node after `last` in address order, starting again at the lowest. -/
def nextNode (k : Dock) (last : Option (Fin 48)) : Option (Fin 48) :=
  let fitted := (List.finRange 48).filter (k.nodeFitted ·)
  match last with
  | none => fitted.head?
  | some l =>
    match fitted.find? (fun n => decide (l.val < n.val)) with
    | some n => some n
    | none => fitted.head?

/-! ### Outcomes (R185, R186) -/

/-- R185: the node's record at a good reply. -/
def nodeAnswered (k : Dock) (n : Fin 48) : Dock :=
  match (k.nodes[n]).status with
  | .notFitted => k
  | .online => k.modNode n ({ · with misses := 0 })
  | .lost => (k.modNode n ({ · with misses := 0, status := .online })).clearCondition .nodeLost (.node n)

/-- The feedback of a report, for the two channels of a node. -/
def reportFeedback (k : Dock) (c1 c2 : Fin 48) (f1 f2 : Option Level) : Dock :=
  (k.writeFeedback c1 f1).writeFeedback c2 f2

/-- R187: a door report handed to OC and to DS. R187 gives the two no order; the feedback is written first,
so that the first report after a restart is compared with the safe effective level (R147) before DS commands
a level (DEDUCED: notes/assumptions/4.md). -/
def handDoorReport (k : Dock) (d : Fin 16) (rep : DoorReport) (blower drive : Option Level) : Dock :=
  (k.reportFeedback (blowerOf d) (driveOf d) blower drive).doorReport d rep

/-- R188: a zone report handed to OC, to ZM and to DC. R188 gives the three no order; the feedback is
written first, so that the first report after a restart is compared with the safe effective level (R147)
before DC commands a level (DEDUCED: notes/assumptions/4.md). -/
def handZoneReport (k : Dock) (z : Fin 8) (readings : List Int) (coil : Option Int)
    (heater fans : Option Level) : Dock :=
  ((k.reportFeedback (heaterOf z) (fansOf z) heater fans).zoneUpdate z (some readings)).coilReading z coil

/-- R185, R187 to R189: a good reply. -/
def goodReply (k : Dock) (n : Fin 48) (rep : Report) : Dock :=
  let k1 := k.nodeAnswered n
  match nodeSubject n, rep with
  | .door d, .door r blower drive => k1.handDoorReport d r blower drive
  | .zone z, .zone readings coil heater fans => k1.handZoneReport z readings coil heater fans
  | .terminal t, .terminal (some (kind, tag)) => k1.scan t kind tag
  | _, _ => k1

/-- R186, R102, R123, R142: the neighbours told of a loss. The checks are suspended before DS acts, so
that a level which DS then commands is compared with no feedback (R142; notes/assumptions/4.md). -/
def tellLoss (k : Dock) (n : Fin 48) : Dock :=
  match nodeSubject n with
  | .door d => ((k.suspendCheck (blowerOf d)).suspendCheck (driveOf d)).doorNodeLost d
  | .zone z =>
    ((k.suspendCheck (heaterOf z)).suspendCheck (fansOf z)).modDefrost z ({ · with coil := none })
  | .terminal _ => k

/-- R186: a corrupt or missing reply. -/
def missedReply (k : Dock) (n : Fin 48) : Dock :=
  match (k.nodes[n]).status with
  | .online =>
    if (k.nodes[n]).misses < 2 then k.modNode n (fun nd => { nd with misses := nd.misses + 1 })
    else ((k.modNode n ({ · with misses := 3, status := .lost })).raise .nodeLost (.node n)).tellLoss n
  | _ => k

/-! ### Requests (R179, R190, R192) -/

/-- R179 check 3: the location is a room of a DOCK zone. -/
def dockRoom (k : Dock) : Spot → Bool
  | .room z => decide ((k.zones[z]).kind = .dock)
  | _ => false

/-- R179: a terminal bound to a location. -/
def bindTerminal (k : Dock) (t : Fin 24) (spot : Spot) : Dock :=
  k.modNode (terminalNode t) (fun nd =>
    if nd.status = .notFitted then
      { nd with binding := some spot, status := .online, misses := 0, verdict := none }
    else { nd with binding := some spot, verdict := none })

/-- R179: a terminal unfitted. -/
def unbindTerminal (k : Dock) (t : Fin 24) : Dock :=
  if k.nodeFitted (terminalNode t) then
    (k.modNode (terminalNode t)
      ({ · with binding := none, status := .notFitted, misses := 0, verdict := none })).clearCondition
      .nodeLost (.node (terminalNode t))
  else k

/-- R179: SET_TERMINAL. -/
def setTerminal (k : Dock) (a : SetTerminal) : Dock × Reply :=
  match indexOf 24 a.terminal, readBinding a.binding with
  | some t, some none =>
    let k1 := k.unbindTerminal t
    accept k1 (k1.terminalRecord t)
  | some t, some (some spot) =>
    if k.spotFitted spot = false then refuse k .noSuch
    else if k.dockRoom spot then refuse k .badState
    else
      let k1 := k.bindTerminal t spot
      accept k1 (k1.terminalRecord t)
  | _, _ => refuse k .badArg

/-- R190: READ_NODE. -/
def readNode (k : Dock) (address : Byte) : Dock × Reply :=
  if address = 0 then refuse k .badArg
  else match indexOf 48 (address - 1) with
    | none => refuse k .badArg
    | some n => accept k (k.nodeReply n)

/-- R192: SET_CLOCK. -/
def setClock (k : Dock) (time : Word) : Dock × Reply :=
  let k1 := { k with offset := time - BitVec.ofNat 32 k.running }
  accept k1 k1.clockBytes

/-- R192: READ_CLOCK. -/
def readClock (k : Dock) : Dock × Reply := accept k k.clockBytes

end Dock

/-! ### Transactions (R180, R183) -/

namespace State

/-- R180, R181: FL sends the next poll, when no transaction is in progress and a node is fitted. -/
def sendPoll (s : State) : State :=
  match s.transaction, s.dock.nextNode s.lastPolled with
  | none, some n =>
    { s with lastPolled := some n, transaction := some { node := n, poll := s.dock.pollFrame n } }
  | _, _ => s

/-- R183, R185, R186: a reply arrives; outside a transaction its bytes are discarded. That a late reply of an
earlier poll of the same node, whole within the present window, is good is the model's choice
(notes/assumptions/25.md). -/
def takeReply (s : State) (bytes : List Byte) (inWindow : Bool) : State :=
  match s.transaction with
  | none => s
  | some t =>
    let dock := match inWindow, readReport t.node bytes with
      | true, some rep => s.dock.goodReply t.node rep
      | _, _ => s.dock.missedReply t.node
    { s with transaction := none, dock := dock }

/-- R183, R186: the reply window expires with no reply begun. -/
def missReply (s : State) : State :=
  match s.transaction with
  | none => s
  | some t => { s with transaction := none, dock := s.dock.missedReply t.node }

end State
end Sys2Proof.Machine
end

