-- ==== Sys2Proof/Machine/Holds.lean ====
section
/-! DEFINITION. The Hold Table and the note slots (Chapter 8). -/

namespace Sys2Proof.Machine

/-! ### One hold (R163 to R166) -/

/-- R164: the table of TAKE_HOLD without FORCE. -/
def Hold.take (h : Hold) (l : Link) : Hold × Status :=
  if h.holder = none then ({ holder := some l, pending := none }, .ok)
  else if h.holder = some l then (h, .ok)
  else ({ h with pending := some l }, .pending)

/-- R165: the hold after a forced take. -/
def Hold.forced : Hold := { holder := some .site, pending := none }

/-- R165: the reason of the HOLD_LOST notice of a forced take, when there is one. -/
def Hold.lostReason (h : Hold) : Option HoldLostReason :=
  if h.holder = some .floor then some .taken
  else if h.pending = some .floor then some .pendingDropped
  else none

/-- R166: the table of DROP_HOLD; none is the refusal. -/
def Hold.drop (h : Hold) (l : Link) : Option Hold :=
  if h.holder = some l then some { holder := h.pending, pending := none }
  else if h.pending = some l then some { h with pending := none }
  else none

/-- R164 to R166: what the reply carries of a hold. -/
def holdBytes (d : Fin 16) (h : Hold) : List Byte := [byteOf d.val, linkCode h.holder, linkCode h.pending]

namespace State

def modHold (s : State) (d : Fin 16) (f : Hold → Hold) : State := { s with holds := tmod s.holds d f }

/-- A notice addressed to one link. -/
def notifyLink (s : State) (l : Link) (n : Notice) : State := { s with dock := s.dock.notifyLink l n }

/-- The checks of R164: the door of a hold request. -/
def holdDoor (s : State) (b : Byte) : Except Status (Fin 16) := s.dock.doorOf b

/-- R165: the forced take of a door's hold by the site link. -/
def forceHold (s : State) (d : Fin 16) : State :=
  let s1 := s.modHold d (fun _ => Hold.forced)
  match (s.holds[d]).lostReason with
  | none => s1
  | some reason => s1.notifyLink .floor (.holdLost d (some .site) none reason s.dock.siteTime)

/-- R164, R165: TAKE_HOLD; a FORCE byte other than 0 and 1 is refused (R216). That the byte is judged before
the door is the model's choice (notes/assumptions/21.md). -/
def takeHold (s : State) (l : Link) (door force : Byte) : State × Reply :=
  match readBit force with
  | none => refuse s .badArg
  | some forced =>
    match s.holdDoor door with
    | .error st => refuse s st
    | .ok d =>
      if forced then
        let s1 := s.forceHold d
        accept s1 (holdBytes d s1.holds[d])
      else
        let r := (s.holds[d]).take l
        (s.modHold d (fun _ => r.1), { status := r.2, data := holdBytes d r.1 })

/-- R166: the notice of a hold passed on to the link that waited. -/
def passNotice (s : State) (d : Fin 16) (before after : Hold) (l : Link) : State :=
  match before.holder, after.holder with
  | some h, some l' =>
    if h = l then s.notifyLink l' (.holdGranted d after.holder after.pending s.dock.siteTime) else s
  | _, _ => s

/-- R166: DROP_HOLD. -/
def dropHold (s : State) (l : Link) (door : Byte) : State × Reply :=
  match s.holdDoor door with
  | .error st => refuse s st
  | .ok d =>
    match (s.holds[d]).drop l with
    | none => refuse s .notHolder
    | some h => accept ((s.modHold d (fun _ => h)).passNotice d s.holds[d] h l) (holdBytes d h)

/-- R171: READ_HOLDS. -/
def readHolds (s : State) : State × Reply :=
  accept s
    ((List.finRange 16).flatMap (fun d => [linkCode (s.holds[d]).holder, linkCode (s.holds[d]).pending]) ++
      [byteOf (s.noteToFloor.getD []).length, byteOf (s.noteToSite.getD []).length])

/-- R172: the note slot toward a link. -/
def noteTo (s : State) : Link → Option (List Byte)
  | .floor => s.noteToFloor
  | .site => s.noteToSite

def setNoteTo (s : State) (l : Link) (note : Option (List Byte)) : State :=
  match l with
  | .floor => { s with noteToFloor := note }
  | .site => { s with noteToSite := note }

/-- R173: PUT_NOTE. -/
def putNote (s : State) (l : Link) (text : List Byte) : State × Reply :=
  if within 1 Config.noteBytes text.length = false then refuse s .badArg
  else if (s.noteTo (otherLink l)).isSome then refuse s .full
  else
    accept ((s.setNoteTo (otherLink l) (some text)).notifyLink (otherLink l)
      (.noteWaiting text.length s.dock.siteTime))

/-- R174: TAKE_NOTE. -/
def takeNote (s : State) (l : Link) : State × Reply :=
  match s.noteTo l with
  | none => accept s [0]
  | some text =>
    accept ((s.setNoteTo l none).notifyLink (otherLink l) (.noteTaken text.length s.dock.siteTime))
      (byteOf text.length :: text)

end State
end Sys2Proof.Machine
end

