-- ==== Sys2Proof/Machine/Frames.lean ====
section
/-! DEFINITION. Link frames, request codes and request bodies (R214, R215, R217), and the receiver's hunt
for a frame (R196). -/

namespace Sys2Proof.Machine

/-! ### Frames (R214) -/

/-- R214: the frame kinds. -/
def requestKind : Byte := 0x01
/-- R214. -/
def replyKind : Byte := 0x02
/-- R214. -/
def noticeKind : Byte := 0x03

/-- R214: the bytes that the CRC is taken over. -/
def frameInner (kind code tag : Byte) (body : List Byte) : List Byte :=
  byteOf (body.length + 5) :: kind :: code :: tag :: body

/-- R214: a frame as it is sent. -/
def frameBytes (kind code tag : Byte) (body : List Byte) : List Byte :=
  Config.startByte :: (frameInner kind code tag body ++ crcBytes (frameInner kind code tag body))

/-! ### Codes (R215) -/

/-- R215: the code of a request. -/
def requestCode : Request → Byte
  | .setZone _ => 0x10
  | .setProbe _ => 0x11
  | .readZone _ _ => 0x12
  | .readProbe _ => 0x13
  | .setClass _ => 0x20
  | .readClass _ => 0x21
  | .admitPallets _ => 0x22
  | .amendPallet _ => 0x23
  | .readPallet _ => 0x24
  | .listPallets _ => 0x25
  | .releasePallet _ => 0x26
  | .setLane _ => 0x30
  | .blockLane _ => 0x31
  | .unblockLane _ => 0x32
  | .readLane _ => 0x33
  | .postMoves _ => 0x34
  | .runRing _ => 0x35
  | .pauseRing _ => 0x36
  | .clearRing _ => 0x37
  | .cancelHead _ => 0x38
  | .readRing _ => 0x39
  | .setDoor _ => 0x40
  | .assignTrailer _ => 0x41
  | .dock _ => 0x42
  | .undock _ => 0x43
  | .openDoor _ => 0x44
  | .closeDoor _ => 0x45
  | .serviceDoor _ => 0x46
  | .returnDoor _ => 0x47
  | .readDoor _ => 0x48
  | .setDefrost _ => 0x50
  | .setSlots _ => 0x51
  | .readDefrost _ => 0x52
  | .requestDefrost _ => 0x53
  | .inhibitDefrost _ => 0x54
  | .restoreDefrost _ => 0x55
  | .setChannel _ => 0x60
  | .readChannel _ => 0x61
  | .ackAlarm _ => 0x70
  | .ackAll => 0x71
  | .setMask _ _ => 0x72
  | .readAlarms _ => 0x73
  | .takeHold _ _ => 0x80
  | .dropHold _ => 0x81
  | .readHolds => 0x82
  | .putNote _ => 0x83
  | .takeNote => 0x84
  | .setTerminal _ => 0x90
  | .readNode _ => 0x91
  | .setClock _ => 0x92
  | .readClock => 0x93
  | .commission _ => 0xA0
  | .identify => 0xA1
  | .status => 0xA2
  | .setNotices _ => 0xA3
  | .restart => 0xA4

/-- R201 check 1: the codes of R215. -/
def codeKnown (code : Byte) : Bool :=
  [0x10, 0x11, 0x12, 0x13, 0x20, 0x21, 0x22, 0x23, 0x24, 0x25, 0x26, 0x30, 0x31, 0x32, 0x33, 0x34, 0x35,
   0x36, 0x37, 0x38, 0x39, 0x40, 0x41, 0x42, 0x43, 0x44, 0x45, 0x46, 0x47, 0x48, 0x50, 0x51, 0x52, 0x53,
   0x54, 0x55, 0x60, 0x61, 0x70, 0x71, 0x72, 0x73, 0x80, 0x81, 0x82, 0x83, 0x84, 0x90, 0x91, 0x92, 0x93,
   0xA0, 0xA1, 0xA2, 0xA3, 0xA4].contains code.toNat

/-! ### Bodies (R217) -/

/-- R216: a location as it is sent. -/
def rawLocBytes (l : RawLoc) : List Byte := [l.kind, l.index]

/-- R217: one entry of ADMIT. -/
def entryBytes (e : AdmitEntry) : List Byte := wordBytes e.tag ++ [e.cls, e.present] ++ halfBytes e.budget

/-- R217: one descriptor of POST_MOVES. -/
def rawMoveBytes (m : RawMove) : List Byte :=
  wordBytes m.tag ++ rawLocBytes m.source ++ rawLocBytes m.dest ++ [m.flags] ++ halfBytes m.allowance

/-- R217: the body of a request. -/
def requestBody : Request → List Byte
  | .setZone a =>
    [a.zone, a.kind] ++ halfBytes a.setPoint ++ halfBytes a.highLimit ++ halfBytes a.lowLimit ++
      halfBytes a.alarmDelay ++ [a.rounding]
  | .setProbe a => [a.probe, a.target, a.offset]
  | .readZone zone clear => [zone, clear]
  | .readProbe p => [p]
  | .setClass a => [a.cls] ++ halfBytes a.limit ++ [a.weight] ++ halfBytes a.budget ++ [a.warn]
  | .readClass c => [c]
  | .admitPallets a => rawLocBytes a.location ++ [byteOf a.entries.length] ++ a.entries.flatMap entryBytes
  | .amendPallet a =>
    wordBytes a.tag ++ halfBytes a.revision ++ [a.mask] ++ halfBytes a.budget ++ [a.cls]
  | .readPallet tag => wordBytes tag
  | .listPallets a => rawLocBytes a.filter ++ halfBytes a.start
  | .releasePallet tag => wordBytes tag
  | .setLane a => [a.lane, a.zone, a.capacity, a.state]
  | .blockLane l => [l]
  | .unblockLane l => [l]
  | .readLane l => [l]
  | .postMoves a => [a.ring, byteOf a.moves.length] ++ a.moves.flatMap rawMoveBytes
  | .runRing r => [r]
  | .pauseRing r => [r]
  | .clearRing r => [r]
  | .cancelHead r => [r]
  | .readRing a => [a.ring, a.offset, a.clear]
  | .setDoor a =>
    [a.door, a.dockZone, a.weight] ++ halfBytes a.hold ++ halfBytes a.low ++ halfBytes a.release ++
      halfBytes a.inflateTimeout ++ [a.travelTimeout, a.leakGrace] ++ halfBytes a.closeWait
  | .assignTrailer a => [a.door] ++ wordBytes a.trailerId ++ [a.direction, a.capacity]
  | .dock d => [d]
  | .undock d => [d]
  | .openDoor d => [d]
  | .closeDoor d => [d]
  | .serviceDoor d => [d]
  | .returnDoor d => [d]
  | .readDoor d => [d]
  | .setDefrost a =>
    [a.zone] ++ halfBytes a.threshold ++ wordBytes a.maxInterval ++ [a.quantum] ++
      halfBytes a.termination ++ halfBytes a.maxDuration ++ halfBytes a.dripTime ++
      halfBytes a.recoveryTimeout ++ halfBytes a.maxDeferral
  | .setSlots n => [n]
  | .readDefrost z => [z]
  | .requestDefrost z => [z]
  | .inhibitDefrost z => [z]
  | .restoreDefrost z => [z]
  | .setChannel a => [a.channel, a.level]
  | .readChannel c => [c]
  | .ackAlarm a => [a.kind, a.subjectType] ++ wordBytes a.subjectIndex
  | .ackAll => []
  | .setMask kind setting => [kind, setting]
  | .readAlarms start => [start]
  | .takeHold d force => [d, force]
  | .dropHold d => [d]
  | .readHolds => []
  | .putNote text => byteOf text.length :: text
  | .takeNote => []
  | .setTerminal a => a.terminal :: rawLocBytes a.binding
  | .readNode n => [n]
  | .setClock t => wordBytes t
  | .readClock => []
  | .commission a => halfBytes a.siteNumber ++ [a.doors, a.zones]
  | .identify => []
  | .status => []
  | .setNotices g => [g]
  | .restart => []

/-- R217: exactly `n` entries of ADMIT. -/
def readEntries : Nat → List Byte → Option (List AdmitEntry)
  | 0, [] => some []
  | n + 1, t3 :: t2 :: t1 :: t0 :: c :: p :: b1 :: b0 :: rest =>
    (readEntries n rest).map (fun es =>
      { tag := toWord t3 t2 t1 t0, cls := c, present := p, budget := toHalf b1 b0 } :: es)
  | _, _ => none

/-- R217: exactly `n` descriptors of POST_MOVES. -/
def readMoves : Nat → List Byte → Option (List RawMove)
  | 0, [] => some []
  | n + 1, t3 :: t2 :: t1 :: t0 :: sk :: si :: dk :: di :: f :: a1 :: a0 :: rest =>
    (readMoves n rest).map (fun ms =>
      { tag := toWord t3 t2 t1 t0, source := { kind := sk, index := si },
        dest := { kind := dk, index := di }, flags := f, allowance := toHalf a1 a0 } :: ms)
  | _, _ => none

/-- A body of one byte. -/
def readOne (f : Byte → Request) : List Byte → Option Request
  | [b] => some (f b)
  | _ => none

/-- An empty body. -/
def readNone (r : Request) : List Byte → Option Request
  | [] => some r
  | _ => none

def readSetZone : List Byte → Option Request
  | [zone, kind, s1, s0, h1, h0, l1, l0, d1, d0, mode] =>
    some (.setZone { zone := zone, kind := kind, setPoint := toHalf s1 s0, highLimit := toHalf h1 h0,
                     lowLimit := toHalf l1 l0, alarmDelay := toHalf d1 d0, rounding := mode })
  | _ => none

def readSetClass : List Byte → Option Request
  | [c, l1, l0, w, b1, b0, f] =>
    some (.setClass { cls := c, limit := toHalf l1 l0, weight := w, budget := toHalf b1 b0, warn := f })
  | _ => none

def readAdmit : List Byte → Option Request
  | kind :: index :: count :: rest =>
    (readEntries count.toNat rest).map (fun es =>
      .admitPallets { location := { kind := kind, index := index }, entries := es })
  | _ => none

def readAmendPallet : List Byte → Option Request
  | [t3, t2, t1, t0, r1, r0, mask, b1, b0, c] =>
    some (.amendPallet { tag := toWord t3 t2 t1 t0, revision := toHalf r1 r0, mask := mask,
                         budget := toHalf b1 b0, cls := c })
  | _ => none

/-- A body of one four-byte field. -/
def readWord (f : Word → Request) : List Byte → Option Request
  | [b3, b2, b1, b0] => some (f (toWord b3 b2 b1 b0))
  | _ => none

def readListPallets : List Byte → Option Request
  | [kind, index, s1, s0] =>
    some (.listPallets { filter := { kind := kind, index := index }, start := toHalf s1 s0 })
  | _ => none

def readPostMoves : List Byte → Option Request
  | ring :: count :: rest =>
    (readMoves count.toNat rest).map (fun ms => .postMoves { ring := ring, moves := ms })
  | _ => none

def readSetDoor : List Byte → Option Request
  | [door, zone, w, h1, h0, l1, l0, r1, r0, i1, i0, t, g, c1, c0] =>
    some (.setDoor { door := door, dockZone := zone, weight := w, hold := toHalf h1 h0,
                     low := toHalf l1 l0, release := toHalf r1 r0, inflateTimeout := toHalf i1 i0,
                     travelTimeout := t, leakGrace := g, closeWait := toHalf c1 c0 })
  | _ => none

def readAssignTrailer : List Byte → Option Request
  | [door, i3, i2, i1, i0, dir, cap] =>
    some (.assignTrailer { door := door, trailerId := toWord i3 i2 i1 i0, direction := dir,
                           capacity := cap })
  | _ => none

def readSetDefrost : List Byte → Option Request
  | [zone, f1, f0, m3, m2, m1, m0, q, t1, t0, d1, d0, p1, p0, r1, r0, e1, e0] =>
    some (.setDefrost { zone := zone, threshold := toHalf f1 f0, maxInterval := toWord m3 m2 m1 m0,
                        quantum := q, termination := toHalf t1 t0, maxDuration := toHalf d1 d0,
                        dripTime := toHalf p1 p0, recoveryTimeout := toHalf r1 r0,
                        maxDeferral := toHalf e1 e0 })
  | _ => none

def readAckAlarm : List Byte → Option Request
  | [kind, type, i3, i2, i1, i0] =>
    some (.ackAlarm { kind := kind, subjectType := type, subjectIndex := toWord i3 i2 i1 i0 })
  | _ => none

def readPutNote : List Byte → Option Request
  | count :: text => if count.toNat = text.length then some (.putNote text) else none
  | _ => none

/-- A body of two bytes. -/
def readTwo (f : Byte → Byte → Request) : List Byte → Option Request
  | [a, b] => some (f a b)
  | _ => none

/-- A body of three bytes. -/
def readThree (f : Byte → Byte → Byte → Request) : List Byte → Option Request
  | [a, b, c] => some (f a b c)
  | _ => none

/-- A body of four bytes. -/
def readFour (f : Byte → Byte → Byte → Byte → Request) : List Byte → Option Request
  | [a, b, c, d] => some (f a b c d)
  | _ => none

/-- R215, R217: the request of a known code and its body; none is a length that R215 does not allow. -/
def readRequest (code : Byte) : List Byte → Option Request :=
  match code.toNat with
  | 0x10 => readSetZone
  | 0x11 => readThree (fun a b c => .setProbe { probe := a, target := b, offset := c })
  | 0x12 => readTwo .readZone
  | 0x13 => readOne .readProbe
  | 0x20 => readSetClass
  | 0x21 => readOne .readClass
  | 0x22 => readAdmit
  | 0x23 => readAmendPallet
  | 0x24 => readWord .readPallet
  | 0x25 => readListPallets
  | 0x26 => readWord .releasePallet
  | 0x30 => readFour (fun a b c d => .setLane { lane := a, zone := b, capacity := c, state := d })
  | 0x31 => readOne .blockLane
  | 0x32 => readOne .unblockLane
  | 0x33 => readOne .readLane
  | 0x34 => readPostMoves
  | 0x35 => readOne .runRing
  | 0x36 => readOne .pauseRing
  | 0x37 => readOne .clearRing
  | 0x38 => readOne .cancelHead
  | 0x39 => readThree (fun a b c => .readRing { ring := a, offset := b, clear := c })
  | 0x40 => readSetDoor
  | 0x41 => readAssignTrailer
  | 0x42 => readOne .dock
  | 0x43 => readOne .undock
  | 0x44 => readOne .openDoor
  | 0x45 => readOne .closeDoor
  | 0x46 => readOne .serviceDoor
  | 0x47 => readOne .returnDoor
  | 0x48 => readOne .readDoor
  | 0x50 => readSetDefrost
  | 0x51 => readOne .setSlots
  | 0x52 => readOne .readDefrost
  | 0x53 => readOne .requestDefrost
  | 0x54 => readOne .inhibitDefrost
  | 0x55 => readOne .restoreDefrost
  | 0x60 => readTwo (fun a b => .setChannel { channel := a, level := b })
  | 0x61 => readOne .readChannel
  | 0x70 => readAckAlarm
  | 0x71 => readNone .ackAll
  | 0x72 => readTwo .setMask
  | 0x73 => readOne .readAlarms
  | 0x80 => readTwo .takeHold
  | 0x81 => readOne .dropHold
  | 0x82 => readNone .readHolds
  | 0x83 => readPutNote
  | 0x84 => readNone .takeNote
  | 0x90 => readThree (fun a b c => .setTerminal { terminal := a, binding := { kind := b, index := c } })
  | 0x91 => readOne .readNode
  | 0x92 => readWord .setClock
  | 0x93 => readNone .readClock
  | 0xA0 => readFour (fun a b c d => .commission { siteNumber := toHalf a b, doors := c, zones := d })
  | 0xA1 => readNone .identify
  | 0xA2 => readNone .status
  | 0xA3 => readOne .setNotices
  | 0xA4 => readNone .restart
  | _ => fun _ => none

/-- R201 checks 1 and 2, R215: what a received request turns out to be. -/
def judge (code : Byte) (body : List Byte) : Received :=
  if codeKnown code then
    match readRequest code body with
    | some r => .known r
    | none => .badLength code
  else .unknownCode code

/-- R200, R201: the code that the reply to a received request carries. -/
def receivedCode : Received → Byte
  | .known r => requestCode r
  | .unknownCode code => code
  | .badLength code => code

/-- R214, R215: a request whose list fits a frame; one that does not is always answered BAD_LENGTH. -/
def requestFits : Request → Bool
  | .admitPallets a => decide (a.entries.length ≤ 30)
  | .postMoves a => decide (a.moves.length ≤ 22)
  | .putNote text => decide (text.length ≤ 249)
  | _ => true

/-- A request as it is received in a frame of its own. -/
def receivedRequest (r : Request) : Received :=
  if requestFits r then .known r else .badLength (requestCode r)

/-! ### The receiver (R196) -/

/-- R196: the hunt for a start byte among bytes already received; a length byte below 5 discards the
frame, and the hunt goes on with the byte after its start byte. -/
def hunt : List Byte → List Byte
  | [] => []
  | b :: rest =>
    if b = Config.startByte then
      match rest with
      | [] => [b]
      | len :: _ => if len.toNat < 5 then hunt rest else b :: rest
    else hunt rest

/-- R196: the frame at the head of the received bytes, when its last CRC byte has arrived, and the
bytes behind it. -/
def completeFrame : List Byte → Option (List Byte × List Byte)
  | start :: len :: rest =>
    if len.toNat ≤ rest.length then
      some (start :: len :: rest.take len.toNat, rest.drop len.toNat)
    else none
  | _ => none

/-- R196: a complete frame, its CRC checked: the bytes from the length to the last of the body. -/
def frameChecked (frame : List Byte) : Option (List Byte) :=
  let inner := (frame.take (frame.length - 2)).tail
  if frame.drop (frame.length - 2) = crcBytes inner then some inner else none

/-- R196: what stays of the received bytes when the frame being assembled is discarded with them; a
complete frame that waits to be taken stays. -/
def dropAssembly (bytes : List Byte) : List Byte :=
  match completeFrame bytes with
  | some (frame, _) => frame
  | none => []

end Sys2Proof.Machine
end

