-- ==== Sys2Proof/Machine/HostLinks.lean ====
section
/-! DEFINITION. The Link Interface (Chapter 10): its checks, the hand-over to the owning block, the input
buffer, the transmitters, commissioning, identity, status and the warm restart. -/

namespace Sys2Proof.Machine

/-! ### Link ends -/

namespace State

def linkEnd (s : State) : Link → LinkEnd
  | .site => s.site
  | .floor => s.floor

def modLink (s : State) (l : Link) (f : LinkEnd → LinkEnd) : State :=
  match l with
  | .site => { s with site := f s.site }
  | .floor => { s with floor := f s.floor }

end State

/-! ### Checks of the Link Interface (R201, R202, R169) -/

/-- R201 check 3: the requests answered before commissioning. -/
def beforeCommissioning : Request → Bool
  | .identify | .status | .commission _ | .setNotices _ => true
  | _ => false

/-- R202: the requests that the operator role may not send. -/
def supervisorOnly : Request → Bool
  | .commission _ | .restart | .setClock _ | .setZone _ | .setProbe _ | .setClass _ | .setLane _
  | .setDoor _ | .setDefrost _ | .setSlots _ | .setMask _ _ | .setTerminal _ | .releasePallet _ => true
  | .takeHold _ force => decide (force = 1)
  | _ => false

/-- R168: the number of the door that a guarded request concerns; none where it is not guarded. -/
def guardedDoor : Request → Option Nat
  | .assignTrailer a => some a.door.toNat
  | .dock d | .undock d | .openDoor d | .closeDoor d | .serviceDoor d | .returnDoor d => some d.toNat
  | .postMoves a => some a.ring.toNat
  | .runRing r | .pauseRing r | .cancelHead r | .clearRing r => some r.toNat
  | .setChannel a => if a.channel.toNat < 32 then some (a.channel.toNat / 2) else none
  | _ => none

namespace State

/-- R169: a link passes the hold check of a request. -/
def holdPasses (s : State) (l : Link) (r : Request) : Bool :=
  match guardedDoor r with
  | none => true
  | some n =>
    if h : n < 16 then
      !s.dock.doorFitted ⟨n, h⟩ || decide ((s.holds[(⟨n, h⟩ : Fin 16)]).holder = some l)
    else true

/-- R201 checks 3 to 5. -/
def linkRefusal (s : State) (l : Link) (r : Request) : Option Status :=
  if s.dock.commissioning.done = false ∧ beforeCommissioning r = false then some .notCommissioned
  else if l = .floor ∧ supervisorOnly r = true then some .notPermitted
  else if s.holdPasses l r = false then some .notHolder
  else none

end State

/-! ### Commissioning (R178, R208) -/

namespace Dock

/-- R178: the nodes that COMMISSION fits. -/
def fitNodes (k : Dock) : Dock :=
  { k with nodes := Vector.ofFn (fun n : Fin 48 =>
      let fits := match nodeSubject n with
        | .door d => k.doorFitted d
        | .zone z => k.zoneFitted z
        | .terminal _ => false
      if fits then { k.nodes[n] with status := .online, misses := 0 } else k.nodes[n]) }

/-- R8, R114, R131: a fitted zone begins its commissioned work. -/
def beginZone (k : Dock) (z : Fin 8) : Dock :=
  ((k.restartRefresh z).commandPhase z).modDefrost z ({ · with interval := true })

/-- R208: what the record holds. -/
def commissionBytes (k : Dock) : List Byte :=
  numBytes2 k.commissioning.siteNumber ++
    [byteOf k.commissioning.doors, byteOf k.commissioning.zones, flagByte k.commissioning.done]

/-- R208: COMMISSION. -/
def commission (k : Dock) (a : CommissionArgs) : Dock × Reply :=
  if k.commissioning.done then refuse k .alreadySet
  else if a.siteNumber = 0 ∨ within 1 16 a.doors.toNat = false ∨ within 1 8 a.zones.toNat = false then
    refuse k .badArg
  else
    let k1 : Dock := { k with commissioning :=
      { done := true, siteNumber := a.siteNumber.toNat, doors := a.doors.toNat, zones := a.zones.toNat } }
    let k2 := ((List.finRange 8).filter (k1.zoneFitted ·)).foldl (fun k z => k.beginZone z) k1.fitNodes
    accept k2 k2.commissionBytes

/-- R209, R218: IDENTIFY. -/
def identify (k : Dock) : Dock × Reply :=
  accept k (numBytes2 Config.vendorCode ++ numBytes2 Config.partCode ++ [byteOf Config.siliconRevision] ++
    [16, 8, 32, 4, 24, 12, 20, 32] ++ numBytes2 1024 ++
    [8, 48, 48, 24, 47, 1, 4, 2, 32, 250, 64] ++
    [flagByte k.commissioning.done] ++ numBytes2 k.commissioning.siteNumber ++
    [byteOf k.commissioning.doors, byteOf k.commissioning.zones])

/-- R205: SET_NOTICES. -/
def setNotices (k : Dock) (l : Link) (groups : Byte) : Dock × Reply :=
  if 128 ≤ groups.toNat then refuse k .badArg
  else accept (k.modNoticeEnd l ({ · with groups := groups.extractLsb' 0 7 })) [groups]

end Dock

/-- R195, R216: a role as it is sent. -/
def roleCode : Link → Byte
  | .site => 0
  | .floor => 1

namespace State

/-- R210: what STATUS carries. -/
def statusBytes (s : State) (l : Link) : List Byte :=
  let k := s.dock
  let e := k.noticeEnd l
  [flagByte k.commissioning.done] ++ numBytes2 k.commissioning.siteNumber ++ k.clockBytes ++
    [flagByte k.plantStop, flagByte k.alarmLine, byteOf k.alarms.length, flagByte k.overflow.isSome] ++
    halfBytes s.restarts ++
    [roleCode l, BitVec.setWidth 8 e.groups, byteOf e.queue.length, e.sequence, flagByte e.dropped]

/-- R210: STATUS. -/
def status (s : State) (l : Link) : State × Reply :=
  accept { s with dock := s.dock.modNoticeEnd l ({ · with dropped := false }) } (s.statusBytes l)

end State

/-! ### The warm restart (R211, R212) -/

namespace Dock

/-- R211 stage 1, R45, R82: the interval closed. -/
def closeInterval (k : Dock) : Dock :=
  let k1 := ((List.finRange 16).filter (fun d => (k.doors[d]).state.notClosed)).foldl
    (fun k d => k.feed d) k
  k1.accrueWhere (fun _ => true)

/-- R20: the zone table after a warm restart. -/
def restartZones (k : Dock) : Dock :=
  { k with zones := Vector.ofFn (fun z : Fin 8 =>
      let zn := k.zones[z]
      { zn with
        warm := restartWatch zn.warm (decide (zn.highLimit < zn.tz)) k.running
        cold := restartWatch zn.cold (decide (zn.tz < zn.lowLimit)) k.running
        refresh := if k.zoneFitted z then some k.running else zn.refresh }) }

/-- R45, R75: the TRANSIT records made ADRIFT, each accrued first. -/
def strandTransit (k : Dock) : Dock := k.relocateSlots (k.slotsWhere inTransit) .adrift

/-- R212: the RING_DRAINED notices of the rings that the restart empties. They take their sequence
numbers and are never sent, since the queues are emptied after them (notes/assumptions/19.md). -/
def restartDrains (k : Dock) : Dock :=
  ((List.finRange 20).filter (fun r => !(k.rings[r]).waiting.isEmpty)).foldl
    (fun k r => k.notify (.ringDrained r k.siteTime)) k

/-- R75, R212: the rings emptied, the MOVE_OVERDUE conditions cleared, the counts taken again. -/
def restartMoves (k : Dock) : Dock :=
  let k1 := { k.restartDrains with rings := k.rings.map restartRing, flights := Vector.replicate 20 [] }
  ((List.finRange 20).foldl (fun k r => k.clearCondition .moveOverdue (.ring r)) k1).recount

/-- R108: the fields of every door. -/
def restartDoorFields (dr : Door) : Door :=
  { dr with through := 0, retry := 0, closeRequested := false, sealLost := false, timers := {} }

/-- R108: a fitted door enters RESYNC. -/
def enterResync (k : Dock) (d : Fin 16) : Dock :=
  let old := (k.doors[d]).state
  let k1 := k.modDoor d ({ · with state := .resync })
  let k2 := if old = .resync then k1
    else k1.notify (.doorState d old .resync (k1.doors[d]).through k1.siteTime)
  (k2.clearCondition .trailerLeft (.door d)).clearCondition .doorTravel (.door d)

/-- R108: DS at a warm restart. -/
def restartDoors (k : Dock) : Dock :=
  ((List.finRange 16).filter (k.doorFitted ·)).foldl (fun k d => k.enterResync d)
    { k with doors := k.doors.map restartDoorFields }

/-- R132: DC at a warm restart. -/
def restartDefrosts (k : Dock) : Dock :=
  { k with defrosts := Vector.ofFn (fun z : Fin 8 => restartDefrost (k.zoneFitted z) k.defrosts[z]) }

/-- R147: OC at a warm restart. -/
def restartChannels (k : Dock) : Dock :=
  { k with channels := Vector.ofFn (fun c : Fin 48 => restartChannel c k.channels[c]) }

/-- R194: the node records after a warm restart. -/
def restartNodes (k : Dock) : Dock := { k with nodes := k.nodes.map ({ · with verdict := none }) }

/-- R211 stage 2: the blocks that live in the dock's records. -/
def restartBlocks (k : Dock) : Dock :=
  (((((k.restartZones.strandTransit).restartMoves).restartDoors).restartDefrosts).restartChannels
    ).restartNodes

/-- R212: the notice end of a link. -/
def restartNotices (k : Dock) : Dock :=
  { k with
    siteNotices := { k.siteNotices with queue := [], dropped := true }
    floorNotices := { k.floorNotices with queue := [], dropped := true } }

end Dock

/-- R212: the frame end of a link; every buffered request has been performed. -/
def LinkEnd.restart (e : LinkEnd) : LinkEnd :=
  { e with receiver := [], replies := e.replies.filter (fun r => !r.overrun) }

namespace State

/-- R211: RESTART. -/
def restart (s : State) : State × Reply :=
  let n := s.restarts + 1
  accept
    { s with
      dock := ((s.dock.closeInterval).restartBlocks).restartNotices
      holds := Vector.replicate 16 {}
      noteToFloor := none
      noteToSite := none
      lastPolled := none
      transaction := none
      site := s.site.restart
      floor := s.floor.restart
      restarts := n }
    (halfBytes n)

/-! ### Hand-over to the owning block -/

/-- A request performed by a block that lives in the dock's records. -/
def onDock (s : State) (f : Dock → Dock × Reply) : State × Reply :=
  ({ s with dock := (f s.dock).1 }, (f s.dock).2)

/-- R201: the owning block performs a request that has passed LI's checks. -/
def performBlock (s : State) (l : Link) : Request → State × Reply
  | .setZone a => s.onDock (·.setZone a)
  | .setProbe a => s.onDock (·.setProbe a)
  | .readZone z c => s.onDock (·.readZone z c)
  | .readProbe p => s.onDock (·.readProbe p)
  | .setClass a => s.onDock (·.setClass a)
  | .readClass c => s.onDock (·.readClass c)
  | .admitPallets a => s.onDock (·.admitPallets a)
  | .amendPallet a => s.onDock (·.amendPallet l a)
  | .readPallet t => s.onDock (·.readPallet t)
  | .listPallets a => s.onDock (·.listPallets a)
  | .releasePallet t => s.onDock (·.releasePallet t)
  | .setLane a => s.onDock (·.setLane a)
  | .blockLane n => s.onDock (·.setLaneState n .blocked)
  | .unblockLane n => s.onDock (·.setLaneState n .enabled)
  | .readLane n => s.onDock (·.readLane n)
  | .postMoves a => s.onDock (·.postMoves a)
  | .runRing r => s.onDock (·.runRing r)
  | .pauseRing r => s.onDock (·.pauseRing r)
  | .clearRing r => s.onDock (·.clearRing r)
  | .cancelHead r => s.onDock (·.cancelHead r)
  | .readRing a => s.onDock (·.readRing a)
  | .setDoor a => s.onDock (·.setDoor a)
  | .assignTrailer a => s.onDock (·.assignTrailer a)
  | .dock d => s.onDock (·.dockDoor d)
  | .undock d => s.onDock (·.undockDoor d)
  | .openDoor d => s.onDock (·.openDoor d)
  | .closeDoor d => s.onDock (·.closeDoor d)
  | .serviceDoor d => s.onDock (·.serviceDoor d)
  | .returnDoor d => s.onDock (·.returnDoor d)
  | .readDoor d => s.onDock (·.readDoor d)
  | .setDefrost a => s.onDock (·.setDefrost a)
  | .setSlots n => s.onDock (·.setSlots n)
  | .readDefrost z => s.onDock (·.readDefrost z)
  | .requestDefrost z => s.onDock (·.requestDefrost z)
  | .inhibitDefrost z => s.onDock (·.inhibitDefrost z)
  | .restoreDefrost z => s.onDock (·.restoreDefrost z)
  | .setChannel a => s.onDock (·.setChannel a)
  | .readChannel c => s.onDock (·.readChannel c)
  | .ackAlarm a => s.onDock (·.ackAlarm l a)
  | .ackAll => s.onDock (·.ackAll l)
  | .setMask a st => s.onDock (·.setMask a st)
  | .readAlarms n => s.onDock (·.readAlarms n)
  | .takeHold d f => s.takeHold l d f
  | .dropHold d => s.dropHold l d
  | .readHolds => s.readHolds
  | .putNote t => s.putNote l t
  | .takeNote => s.takeNote l
  | .setTerminal a => s.onDock (·.setTerminal a)
  | .readNode n => s.onDock (·.readNode n)
  | .setClock t => s.onDock (·.setClock t)
  | .readClock => s.onDock (·.readClock)
  | .commission a => s.onDock (·.commission a)
  | .identify => s.onDock (·.identify)
  | .status => s.status l
  | .setNotices g => s.onDock (·.setNotices l g)
  | .restart => s.restart

/-- R199, R201: a request of a link performed as one event. -/
def perform (s : State) (l : Link) : Received → State × Reply
  | .unknownCode _ => refuse s .unknownRequest
  | .badLength _ => refuse s .badLength
  | .known r =>
    match s.linkRefusal l r with
    | some st => refuse s st
    | none => s.performBlock l r

/-! ### The input buffer (R198) and the transmitters (R203) -/

/-- R199, R200: a reply made ready. -/
def makeReady (s : State) (l : Link) (r : ReadyReply) : State :=
  s.modLink l (fun e => { e with replies := e.replies ++ [r] })

/-- R198: the waiting OVERRUN replies of a link. -/
def overruns (s : State) (l : Link) : Nat := ((s.linkEnd l).replies.filter (·.overrun)).length

/-- R198, R199, R200: a received request takes a place and is performed (notes/assumptions/5.md), or is
answered OVERRUN, or is discarded. -/
def receive (s : State) (l : Link) (tag : Byte) (rcv : Received) : State :=
  if (s.linkEnd l).places.length < Config.bufferPlaces then
    let s1 := s.modLink l (fun e => { e with places := e.places ++ [{ tag := tag, received := rcv }] })
    let r := s1.perform l rcv
    r.1.makeReady l
      { overrun := false, code := receivedCode rcv, tag := tag, body := r.2.status.code :: r.2.data }
  else if s.overruns l < Config.bufferPlaces then
    s.makeReady l { overrun := true, code := receivedCode rcv, tag := tag, body := [Status.overrun.code] }
  else s

/-- R203: a reply as a frame. -/
def replyFrame (r : ReadyReply) : List Byte := frameBytes replyKind r.code r.tag r.body

/-- R206, R219: a notice as a frame. -/
def noticeFrame (n : QueuedNotice) : List Byte :=
  frameBytes noticeKind n.notice.code n.sequence n.notice.body

/-- R203: an idle transmitter begins the next frame. -/
def startLink (s : State) (l : Link) : State :=
  match (s.linkEnd l).sending with
  | some _ => s
  | none =>
    match (s.linkEnd l).replies with
    | r :: rest =>
      s.modLink l (fun e =>
        { e with
          replies := rest
          sending := some { kind := if r.overrun then .overrun else .reply, frame := replyFrame r } })
    | [] =>
      match (s.dock.noticeEnd l).queue with
      | n :: rest =>
        ({ s with dock := s.dock.modNoticeEnd l ({ · with queue := rest }) } : State).modLink l
          ({ · with sending := some { kind := .notice, frame := noticeFrame n } })
      | [] => s

/-- R203: both transmitters at the end of an event. -/
def settle (s : State) : State := (s.startLink .site).startLink .floor

/-- R203, R198: a link's transmitter finishes its frame; the end of a request's reply frees the
oldest place. -/
def finishFrame (s : State) (l : Link) : State :=
  s.modLink l (fun e =>
    match e.sending with
    | none => e
    | some { kind := .reply, .. } => { e with sending := none, places := e.places.tail }
    | some _ => { e with sending := none })

/-! ### The receiver (R196, R197) -/

/-- R196: a byte arrives on a link. -/
def takeByte (s : State) (l : Link) (byte : Byte) (stopBit : Bool) : State :=
  s.modLink l (fun e =>
    { e with
      receiver := if stopBit then
          (match completeFrame e.receiver with
            | some _ => e.receiver ++ [byte]
            | none => hunt (e.receiver ++ [byte]))
        else dropAssembly e.receiver })

/-- R196: the gap inside a frame. -/
def gapTimeout (s : State) (l : Link) : State :=
  s.modLink l (fun e => { e with receiver := dropAssembly e.receiver })

/-- R196: the frame at the head of a link's received bytes is complete: it is checked, and a request
is received. -/
def takeFrame (s : State) (l : Link) : State :=
  match completeFrame (s.linkEnd l).receiver with
  | none => s
  | some (frame, rest) =>
    match frameChecked frame with
    | some (_ :: kind :: code :: tag :: body) =>
      let s1 := s.modLink l ({ · with receiver := hunt rest })
      if kind = requestKind then s1.receive l tag (judge code body) else s1
    | _ => s.modLink l (fun e => { e with receiver := hunt e.receiver.tail })

/-! ### Power-on reset (R213), the plant-stop line (R143, R144, R146) -/

/-- R213: an event does nothing while power-on reset is performed; at its end the transmitters go on. -/
def live (s : State) (f : State → State) : State := if s.inReset then s else (f s).settle

/-- R213: power-on reset; the queue of commands and the level of the plant-stop line stand outside
what it resets. -/
def powerOn (s : State) : State :=
  { State.reset with plantLine := s.plantLine, pending := s.pending, inReset := true }

/-- R146, R213: the end of power-on reset. -/
def endReset (s : State) : State :=
  if s.inReset then
    let k := if s.plantLine then (s.dock.setPlantStop true).raise .plantStop .site
      else s.dock
    ({ s with inReset := false, dock := k } : State).settle
  else s

end State

namespace Dock

/-- R143: the assertion of the plant-stop line. -/
def assertStop (k : Dock) : Dock :=
  if k.plantStop then k
  else (((k.setPlantStop true).raise .plantStop .site).doorsPlantStop).defrostPlantStop

/-- R144: the release of the plant-stop line. -/
def releaseStop (k : Dock) : Dock :=
  if k.plantStop then
    (((k.setPlantStop false).clearCondition .plantStop .site).doorsPlantRelease).defrostPlantRelease
  else k

end Dock
end Sys2Proof.Machine
end

