-- ==== Sys2Proof/Machine/Requests.lean ====
section
/-! DEFINITION. The meanings of the request commands: each is the request received whole on its link
(R198) and, with a place free, performed (R199 to R202) by the operation that its rule names. -/

namespace Sys2Proof.Machine

/-- The outcome of every command: no command of this block stops the machine. -/
abbrev Result := Host.Outcome State Fault Refusal

/-- R198, R213: a request received on a link; nothing is received while power-on reset is performed. -/
def State.request (s : State) (l : Link) (tag : Byte) (r : Request) : Result :=
  .next (s.live (·.receive l tag (receivedRequest r)))

/-- SET_ZONE, R2. -/
def execSetZone (link : Link) (tag : Byte) (a : Sys2Proof.SetZone) (s : State) : Result :=
  s.request link tag (.setZone a)

/-- SET_PROBE, R5. -/
def execSetProbe (link : Link) (tag : Byte) (a : SetProbe) (s : State) : Result :=
  s.request link tag (.setProbe a)

/-- READ_ZONE, R17. -/
def execReadZone (link : Link) (tag : Byte) (zone : Byte) (clear : Byte) (s : State) : Result :=
  s.request link tag (.readZone zone clear)

/-- READ_PROBE, R18. -/
def execReadProbe (link : Link) (tag : Byte) (probe : Byte) (s : State) : Result :=
  s.request link tag (.readProbe probe)

/-- SET_CLASS, R22. -/
def execSetClass (link : Link) (tag : Byte) (a : SetClass) (s : State) : Result :=
  s.request link tag (.setClass a)

/-- READ_CLASS, R22. -/
def execReadClass (link : Link) (tag : Byte) (cls : Byte) (s : State) : Result :=
  s.request link tag (.readClass cls)

/-- ADMIT, R25. -/
def execAdmit (link : Link) (tag : Byte) (a : Admit) (s : State) : Result :=
  s.request link tag (.admitPallets a)

/-- AMEND_PALLET, R39. -/
def execAmendPallet (link : Link) (tag : Byte) (a : AmendPallet) (s : State) : Result :=
  s.request link tag (.amendPallet a)

/-- READ_PALLET, R41. -/
def execReadPallet (link : Link) (tag : Byte) (pallet : Word) (s : State) : Result :=
  s.request link tag (.readPallet pallet)

/-- LIST_PALLETS, R42. -/
def execListPallets (link : Link) (tag : Byte) (a : ListPallets) (s : State) : Result :=
  s.request link tag (.listPallets a)

/-- RELEASE_PALLET, R43. -/
def execReleasePallet (link : Link) (tag : Byte) (pallet : Word) (s : State) : Result :=
  s.request link tag (.releasePallet pallet)

/-- SET_LANE, R47. -/
def execSetLane (link : Link) (tag : Byte) (a : SetLane) (s : State) : Result :=
  s.request link tag (.setLane a)

/-- BLOCK_LANE, R48. -/
def execBlockLane (link : Link) (tag : Byte) (lane : Byte) (s : State) : Result :=
  s.request link tag (.blockLane lane)

/-- UNBLOCK_LANE, R48. -/
def execUnblockLane (link : Link) (tag : Byte) (lane : Byte) (s : State) : Result :=
  s.request link tag (.unblockLane lane)

/-- READ_LANE, R48. -/
def execReadLane (link : Link) (tag : Byte) (lane : Byte) (s : State) : Result :=
  s.request link tag (.readLane lane)

/-- POST_MOVES, R53. -/
def execPostMoves (link : Link) (tag : Byte) (a : PostMoves) (s : State) : Result :=
  s.request link tag (.postMoves a)

/-- RUN_RING, R56. -/
def execRunRing (link : Link) (tag : Byte) (ring : Byte) (s : State) : Result :=
  s.request link tag (.runRing ring)

/-- PAUSE_RING, R57. -/
def execPauseRing (link : Link) (tag : Byte) (ring : Byte) (s : State) : Result :=
  s.request link tag (.pauseRing ring)

/-- CLEAR_RING, R58. -/
def execClearRing (link : Link) (tag : Byte) (ring : Byte) (s : State) : Result :=
  s.request link tag (.clearRing ring)

/-- CANCEL_HEAD, R59. -/
def execCancelHead (link : Link) (tag : Byte) (ring : Byte) (s : State) : Result :=
  s.request link tag (.cancelHead ring)

/-- READ_RING, R61. -/
def execReadRing (link : Link) (tag : Byte) (a : ReadRing) (s : State) : Result :=
  s.request link tag (.readRing a)

/-- SET_DOOR, R77. -/
def execSetDoor (link : Link) (tag : Byte) (a : SetDoor) (s : State) : Result :=
  s.request link tag (.setDoor a)

/-- ASSIGN_TRAILER, R85. -/
def execAssignTrailer (link : Link) (tag : Byte) (a : AssignTrailer) (s : State) : Result :=
  s.request link tag (.assignTrailer a)

/-- DOCK, R87. -/
def execDock (link : Link) (tag : Byte) (door : Byte) (s : State) : Result :=
  s.request link tag (.dock door)

/-- UNDOCK, R88. -/
def execUndock (link : Link) (tag : Byte) (door : Byte) (s : State) : Result :=
  s.request link tag (.undock door)

/-- OPEN_DOOR, R89. -/
def execOpenDoor (link : Link) (tag : Byte) (door : Byte) (s : State) : Result :=
  s.request link tag (.openDoor door)

/-- CLOSE_DOOR, R92. -/
def execCloseDoor (link : Link) (tag : Byte) (door : Byte) (s : State) : Result :=
  s.request link tag (.closeDoor door)

/-- SERVICE_DOOR, R100. -/
def execServiceDoor (link : Link) (tag : Byte) (door : Byte) (s : State) : Result :=
  s.request link tag (.serviceDoor door)

/-- RETURN_DOOR, R103. -/
def execReturnDoor (link : Link) (tag : Byte) (door : Byte) (s : State) : Result :=
  s.request link tag (.returnDoor door)

/-- READ_DOOR, R106. -/
def execReadDoor (link : Link) (tag : Byte) (door : Byte) (s : State) : Result :=
  s.request link tag (.readDoor door)

/-- SET_DEFROST, R111. -/
def execSetDefrost (link : Link) (tag : Byte) (a : SetDefrost) (s : State) : Result :=
  s.request link tag (.setDefrost a)

/-- SET_SLOTS, R117. -/
def execSetSlots (link : Link) (tag : Byte) (limit : Byte) (s : State) : Result :=
  s.request link tag (.setSlots limit)

/-- READ_DEFROST, R112. -/
def execReadDefrost (link : Link) (tag : Byte) (zone : Byte) (s : State) : Result :=
  s.request link tag (.readDefrost zone)

/-- REQUEST_DEFROST, R115. -/
def execRequestDefrost (link : Link) (tag : Byte) (zone : Byte) (s : State) : Result :=
  s.request link tag (.requestDefrost zone)

/-- INHIBIT_DEFROST, R129. -/
def execInhibitDefrost (link : Link) (tag : Byte) (zone : Byte) (s : State) : Result :=
  s.request link tag (.inhibitDefrost zone)

/-- RESTORE_DEFROST, R130. -/
def execRestoreDefrost (link : Link) (tag : Byte) (zone : Byte) (s : State) : Result :=
  s.request link tag (.restoreDefrost zone)

/-- SET_CHANNEL, R137. -/
def execSetChannel (link : Link) (tag : Byte) (a : SetChannel) (s : State) : Result :=
  s.request link tag (.setChannel a)

/-- READ_CHANNEL, R145. -/
def execReadChannel (link : Link) (tag : Byte) (channel : Byte) (s : State) : Result :=
  s.request link tag (.readChannel channel)

/-- ACK_ALARM, R155. -/
def execAckAlarm (link : Link) (tag : Byte) (a : AckAlarm) (s : State) : Result :=
  s.request link tag (.ackAlarm a)

/-- ACK_ALL, R156. -/
def execAckAll (link : Link) (tag : Byte) (s : State) : Result :=
  s.request link tag .ackAll

/-- SET_MASK, R158. -/
def execSetMask (link : Link) (tag : Byte) (kind : Byte) (setting : Byte) (s : State) : Result :=
  s.request link tag (.setMask kind setting)

/-- READ_ALARMS, R160. -/
def execReadAlarms (link : Link) (tag : Byte) (start : Byte) (s : State) : Result :=
  s.request link tag (.readAlarms start)

/-- TAKE_HOLD, R164: a FORCE byte other than 1. -/
def execTakeHold (link : Link) (tag : Byte) (door : Byte) (force : Byte) (s : State) : Result :=
  s.request link tag (.takeHold door force)

/-- TAKE_HOLD with FORCE given, R165. -/
def execTakeHoldForce (link : Link) (tag : Byte) (door : Byte) (s : State) : Result :=
  s.request link tag (.takeHold door 1)

/-- DROP_HOLD, R166. -/
def execDropHold (link : Link) (tag : Byte) (door : Byte) (s : State) : Result :=
  s.request link tag (.dropHold door)

/-- READ_HOLDS, R171. -/
def execReadHolds (link : Link) (tag : Byte) (s : State) : Result :=
  s.request link tag .readHolds

/-- PUT_NOTE, R173. -/
def execPutNote (link : Link) (tag : Byte) (text : List Byte) (s : State) : Result :=
  s.request link tag (.putNote text)

/-- TAKE_NOTE, R174. -/
def execTakeNote (link : Link) (tag : Byte) (s : State) : Result :=
  s.request link tag .takeNote

/-- SET_TERMINAL, R179. -/
def execSetTerminal (link : Link) (tag : Byte) (a : SetTerminal) (s : State) : Result :=
  s.request link tag (.setTerminal a)

/-- READ_NODE, R190. -/
def execReadNode (link : Link) (tag : Byte) (address : Byte) (s : State) : Result :=
  s.request link tag (.readNode address)

/-- SET_CLOCK, R192. -/
def execSetClock (link : Link) (tag : Byte) (time : Word) (s : State) : Result :=
  s.request link tag (.setClock time)

/-- READ_CLOCK, R192. -/
def execReadClock (link : Link) (tag : Byte) (s : State) : Result :=
  s.request link tag .readClock

/-- COMMISSION, R208. -/
def execCommission (link : Link) (tag : Byte) (a : CommissionArgs) (s : State) : Result :=
  s.request link tag (.commission a)

/-- IDENTIFY, R209. -/
def execIdentify (link : Link) (tag : Byte) (s : State) : Result :=
  s.request link tag .identify

/-- STATUS, R210. -/
def execStatus (link : Link) (tag : Byte) (s : State) : Result :=
  s.request link tag .status

/-- SET_NOTICES, R205. -/
def execSetNotices (link : Link) (tag : Byte) (groups : Byte) (s : State) : Result :=
  s.request link tag (.setNotices groups)

/-- RESTART, R211. -/
def execRestart (link : Link) (tag : Byte) (s : State) : Result :=
  s.request link tag .restart

/-- R201 checks 1 and 2: a request of a code and a body as they were received. -/
def execUnknownRequest (link : Link) (tag code : Byte) (body : List Byte) (s : State) : Result :=
  .next (s.live (·.receive link tag (judge code body)))

end Sys2Proof.Machine
end

