-- ==== Sys2Proof/Machine/Events.lean ====
section
/-! DEFINITION. The meanings of the commands that are no requests: link, line, clock and field loop
events and the expiries of the timers. An expiry of a timer that is not running, or not yet due, changes
nothing; during power-on reset only the two lines are heard (notes/assumptions/8.md, 6.md). -/

namespace Sys2Proof.Machine

/-- An event that acts on the records of the dock. -/
def State.event (s : State) (f : Dock → Dock) : Result :=
  .next (s.live (fun s => { s with dock := f s.dock }))

/-! ### Links -/

/-- R196, R197, R198: FRAME_COMPLETE. -/
def execFrameComplete (link : Link) (s : State) : Result := .next (s.live (·.takeFrame link))

/-- R196: INTER_BYTE_GAP_TIMEOUT. -/
def execInterByteGapTimeout (link : Link) (s : State) : Result := .next (s.live (·.gapTimeout link))

/-- R203: FRAME_SENT. -/
def execFrameSent (link : Link) (s : State) : Result := .next (s.live (·.finishFrame link))

/-- R196: BYTE_RECEIVED. -/
def execByteReceived (link : Link) (byte : Byte) (stopBit : Bool) (s : State) : Result :=
  .next (s.live (·.takeByte link byte stopBit))

/-! ### Lines and the clock -/

/-- R213: POWER_ON_RESET. -/
def execPowerOnReset (s : State) : Result := .next s.powerOn

/-- R146, R213: RESET_LINE_RELEASE. -/
def execResetLineRelease (s : State) : Result := .next s.endReset

/-- R143: PLANT_STOP_ASSERTION. -/
def execPlantStopAssertion (s : State) : Result :=
  ({ s with plantLine := true } : State).event Dock.assertStop

/-- R144: PLANT_STOP_RELEASE. -/
def execPlantStopRelease (s : State) : Result :=
  ({ s with plantLine := false } : State).event Dock.releaseStop

/-- R191: RUNNING_SECONDS_TICK. -/
def execRunningSecondsTick (s : State) : Result := s.event Dock.tick

/-! ### Field loop -/

/-- R180, R181: POLL. -/
def execPoll (s : State) : Result := .next (s.live State.sendPoll)

/-- R183 to R189: NODE_REPLY. -/
def execNodeReply (bytes : List Byte) (inWindow : Bool) (s : State) : Result :=
  .next (s.live (·.takeReply bytes inWindow))

/-- R183, R186: REPLY_WINDOW_EXPIRY. -/
def execReplyWindowExpiry (s : State) : Result := .next (s.live State.missReply)

/-! ### Timers -/

/-- R7: STALENESS_TIMER_EXPIRY. -/
def execStalenessTimerExpiry (probe : Fin 32) (s : State) : Result := s.event (·.stalenessExpiry probe)

/-- R8: REFRESH_TIMER_EXPIRY. -/
def execRefreshTimerExpiry (zone : Fin 8) (s : State) : Result := s.event (·.refreshExpiry zone)

/-- R14: WARM_DELAY_EXPIRY. -/
def execWarmDelayExpiry (zone : Fin 8) (s : State) : Result := s.event (·.warmExpiry zone)

/-- R15: COLD_DELAY_EXPIRY. -/
def execColdDelayExpiry (zone : Fin 8) (s : State) : Result := s.event (·.coldExpiry zone)

/-- R70: ALLOWANCE_TIMER_EXPIRY. -/
def execAllowanceTimerExpiry (ring : Fin 20) (s : State) : Result := s.event (·.allowanceExpiry ring)

/-- R87: INFLATE_TIMER_EXPIRY. -/
def execInflateTimerExpiry (door : Fin 16) (s : State) : Result := s.event (·.inflateExpiry door)

/-- R88: DEFLATE_TIMER_EXPIRY. -/
def execDeflateTimerExpiry (door : Fin 16) (s : State) : Result := s.event (·.deflateExpiry door)

/-- R97: TRAVEL_TIMER_EXPIRY. -/
def execTravelTimerExpiry (door : Fin 16) (s : State) : Result := s.event (·.travelExpiry door)

/-- R90: RECLOSE_TIMER_EXPIRY. -/
def execRecloseTimerExpiry (door : Fin 16) (s : State) : Result := s.event (·.recloseExpiry door)

/-- R94: CLOSE_WAIT_EXPIRY. -/
def execCloseWaitExpiry (door : Fin 16) (s : State) : Result := s.event (·.closeWaitExpiry door)

/-- R98: LEAK_GRACE_EXPIRY. -/
def execLeakGraceExpiry (door : Fin 16) (s : State) : Result := s.event (·.leakExpiry door)

/-- R114: INTERVAL_TIMER_EXPIRY. -/
def execIntervalTimerExpiry (zone : Fin 8) (s : State) : Result := s.event (·.intervalExpiry zone)

/-- R121: DEFERRAL_TIMER_EXPIRY. -/
def execDeferralTimerExpiry (zone : Fin 8) (s : State) : Result := s.event (·.deferralExpiry zone)

/-- R124: DURATION_TIMER_EXPIRY. -/
def execDurationTimerExpiry (zone : Fin 8) (s : State) : Result := s.event (·.durationExpiry zone)

/-- R125: DRIP_TIMER_EXPIRY. -/
def execDripTimerExpiry (zone : Fin 8) (s : State) : Result := s.event (·.dripExpiry zone)

/-- R127: RECOVERY_TIMER_EXPIRY. -/
def execRecoveryTimerExpiry (zone : Fin 8) (s : State) : Result := s.event (·.recoveryExpiry zone)

/-- R141: MISMATCH_TIMER_EXPIRY. -/
def execMismatchTimerExpiry (channel : Fin 48) (s : State) : Result :=
  s.event (·.mismatchExpiry channel)

end Sys2Proof.Machine
end

