-- ==== Sys2Proof/Machine/Dispatch.lean ====
section
/-! DEFINITION. The dispatch of every command to its own meaning. -/

namespace Sys2Proof.Machine

def exec (i : Instr) (s : State) : Host.Outcome State Fault Refusal :=
  match i with
  | .setZone link tag a => Sys2Proof.Machine.execSetZone link tag a s
  | .setProbe link tag a => Sys2Proof.Machine.execSetProbe link tag a s
  | .readZone link tag zone clear => Sys2Proof.Machine.execReadZone link tag zone clear s
  | .readProbe link tag probe => Sys2Proof.Machine.execReadProbe link tag probe s
  | .setClass link tag a => Sys2Proof.Machine.execSetClass link tag a s
  | .readClass link tag cls => Sys2Proof.Machine.execReadClass link tag cls s
  | .admitPallets link tag a => Sys2Proof.Machine.execAdmit link tag a s
  | .amendPallet link tag a => Sys2Proof.Machine.execAmendPallet link tag a s
  | .readPallet link tag pallet => Sys2Proof.Machine.execReadPallet link tag pallet s
  | .listPallets link tag a => Sys2Proof.Machine.execListPallets link tag a s
  | .releasePallet link tag pallet => Sys2Proof.Machine.execReleasePallet link tag pallet s
  | .setLane link tag a => Sys2Proof.Machine.execSetLane link tag a s
  | .blockLane link tag lane => Sys2Proof.Machine.execBlockLane link tag lane s
  | .unblockLane link tag lane => Sys2Proof.Machine.execUnblockLane link tag lane s
  | .readLane link tag lane => Sys2Proof.Machine.execReadLane link tag lane s
  | .postMoves link tag a => Sys2Proof.Machine.execPostMoves link tag a s
  | .runRing link tag ring => Sys2Proof.Machine.execRunRing link tag ring s
  | .pauseRing link tag ring => Sys2Proof.Machine.execPauseRing link tag ring s
  | .clearRing link tag ring => Sys2Proof.Machine.execClearRing link tag ring s
  | .cancelHead link tag ring => Sys2Proof.Machine.execCancelHead link tag ring s
  | .readRing link tag a => Sys2Proof.Machine.execReadRing link tag a s
  | .setDoor link tag a => Sys2Proof.Machine.execSetDoor link tag a s
  | .assignTrailer link tag a => Sys2Proof.Machine.execAssignTrailer link tag a s
  | .dock link tag door => Sys2Proof.Machine.execDock link tag door s
  | .undock link tag door => Sys2Proof.Machine.execUndock link tag door s
  | .openDoor link tag door => Sys2Proof.Machine.execOpenDoor link tag door s
  | .closeDoor link tag door => Sys2Proof.Machine.execCloseDoor link tag door s
  | .serviceDoor link tag door => Sys2Proof.Machine.execServiceDoor link tag door s
  | .returnDoor link tag door => Sys2Proof.Machine.execReturnDoor link tag door s
  | .readDoor link tag door => Sys2Proof.Machine.execReadDoor link tag door s
  | .setDefrost link tag a => Sys2Proof.Machine.execSetDefrost link tag a s
  | .setSlots link tag limit => Sys2Proof.Machine.execSetSlots link tag limit s
  | .readDefrost link tag zone => Sys2Proof.Machine.execReadDefrost link tag zone s
  | .requestDefrost link tag zone => Sys2Proof.Machine.execRequestDefrost link tag zone s
  | .inhibitDefrost link tag zone => Sys2Proof.Machine.execInhibitDefrost link tag zone s
  | .restoreDefrost link tag zone => Sys2Proof.Machine.execRestoreDefrost link tag zone s
  | .setChannel link tag a => Sys2Proof.Machine.execSetChannel link tag a s
  | .readChannel link tag channel => Sys2Proof.Machine.execReadChannel link tag channel s
  | .ackAlarm link tag a => Sys2Proof.Machine.execAckAlarm link tag a s
  | .ackAll link tag => Sys2Proof.Machine.execAckAll link tag s
  | .setMask link tag kind setting => Sys2Proof.Machine.execSetMask link tag kind setting s
  | .readAlarms link tag start => Sys2Proof.Machine.execReadAlarms link tag start s
  | .takeHold link tag door force => Sys2Proof.Machine.execTakeHold link tag door force s
  | .takeHoldForce link tag door => Sys2Proof.Machine.execTakeHoldForce link tag door s
  | .dropHold link tag door => Sys2Proof.Machine.execDropHold link tag door s
  | .readHolds link tag => Sys2Proof.Machine.execReadHolds link tag s
  | .putNote link tag text => Sys2Proof.Machine.execPutNote link tag text s
  | .takeNote link tag => Sys2Proof.Machine.execTakeNote link tag s
  | .setTerminal link tag a => Sys2Proof.Machine.execSetTerminal link tag a s
  | .readNode link tag address => Sys2Proof.Machine.execReadNode link tag address s
  | .setClock link tag time => Sys2Proof.Machine.execSetClock link tag time s
  | .readClock link tag => Sys2Proof.Machine.execReadClock link tag s
  | .commission link tag a => Sys2Proof.Machine.execCommission link tag a s
  | .identify link tag => Sys2Proof.Machine.execIdentify link tag s
  | .status link tag => Sys2Proof.Machine.execStatus link tag s
  | .setNotices link tag groups => Sys2Proof.Machine.execSetNotices link tag groups s
  | .restart link tag => Sys2Proof.Machine.execRestart link tag s
  | .unknownRequest link tag code body => Sys2Proof.Machine.execUnknownRequest link tag code body s
  | .frameComplete link => Sys2Proof.Machine.execFrameComplete link s
  | .interByteGapTimeout link => Sys2Proof.Machine.execInterByteGapTimeout link s
  | .frameSent link => Sys2Proof.Machine.execFrameSent link s
  | .powerOnReset => Sys2Proof.Machine.execPowerOnReset s
  | .plantStopAssertion => Sys2Proof.Machine.execPlantStopAssertion s
  | .plantStopRelease => Sys2Proof.Machine.execPlantStopRelease s
  | .runningSecondsTick => Sys2Proof.Machine.execRunningSecondsTick s
  | .poll => Sys2Proof.Machine.execPoll s
  | .nodeReply bytes inWindow => Sys2Proof.Machine.execNodeReply bytes inWindow s
  | .replyWindowExpiry => Sys2Proof.Machine.execReplyWindowExpiry s
  | .stalenessTimerExpiry probe => Sys2Proof.Machine.execStalenessTimerExpiry probe s
  | .refreshTimerExpiry zone => Sys2Proof.Machine.execRefreshTimerExpiry zone s
  | .warmDelayExpiry zone => Sys2Proof.Machine.execWarmDelayExpiry zone s
  | .coldDelayExpiry zone => Sys2Proof.Machine.execColdDelayExpiry zone s
  | .allowanceTimerExpiry ring => Sys2Proof.Machine.execAllowanceTimerExpiry ring s
  | .inflateTimerExpiry door => Sys2Proof.Machine.execInflateTimerExpiry door s
  | .deflateTimerExpiry door => Sys2Proof.Machine.execDeflateTimerExpiry door s
  | .travelTimerExpiry door => Sys2Proof.Machine.execTravelTimerExpiry door s
  | .recloseTimerExpiry door => Sys2Proof.Machine.execRecloseTimerExpiry door s
  | .closeWaitExpiry door => Sys2Proof.Machine.execCloseWaitExpiry door s
  | .leakGraceExpiry door => Sys2Proof.Machine.execLeakGraceExpiry door s
  | .intervalTimerExpiry zone => Sys2Proof.Machine.execIntervalTimerExpiry zone s
  | .deferralTimerExpiry zone => Sys2Proof.Machine.execDeferralTimerExpiry zone s
  | .durationTimerExpiry zone => Sys2Proof.Machine.execDurationTimerExpiry zone s
  | .dripTimerExpiry zone => Sys2Proof.Machine.execDripTimerExpiry zone s
  | .recoveryTimerExpiry zone => Sys2Proof.Machine.execRecoveryTimerExpiry zone s
  | .mismatchTimerExpiry channel => Sys2Proof.Machine.execMismatchTimerExpiry channel s
  | .byteReceived link byte stopBit => Sys2Proof.Machine.execByteReceived link byte stopBit s
  | .resetLineRelease => Sys2Proof.Machine.execResetLineRelease s

end Sys2Proof.Machine
end

