-- ==== Sys2Proof/WellFormed.lean ====
section
/-! DEFINITION. Which commands can occur: a request whose lists fit a frame (R215), a request of an
unknown code, a TAKE_HOLD without FORCE told apart from one with it, a reply that has begun (R183). -/

namespace Sys2Proof

open Machine

/-- R214: a body fits a frame. -/
def bodyFits (body : List Byte) : Bool := decide (body.length ≤ Config.bodyBytes)

/-- The command can occur. -/
def Instr.wellFormed : Instr → Bool
  | .admitPallets _ _ a => requestFits (.admitPallets a)
  | .postMoves _ _ a => requestFits (.postMoves a)
  | .putNote _ _ text => requestFits (.putNote text)
  | .takeHold _ _ _ force => decide (force ≠ 1)
  | .unknownRequest _ _ code body => !codeKnown code && bodyFits body
  | .nodeReply bytes _ => !bytes.isEmpty
  | .setZone _ _ _ => true
  | .setProbe _ _ _ => true
  | .readZone _ _ _ _ => true
  | .readProbe _ _ _ => true
  | .setClass _ _ _ => true
  | .readClass _ _ _ => true
  | .amendPallet _ _ _ => true
  | .readPallet _ _ _ => true
  | .listPallets _ _ _ => true
  | .releasePallet _ _ _ => true
  | .setLane _ _ _ => true
  | .blockLane _ _ _ => true
  | .unblockLane _ _ _ => true
  | .readLane _ _ _ => true
  | .runRing _ _ _ => true
  | .pauseRing _ _ _ => true
  | .clearRing _ _ _ => true
  | .cancelHead _ _ _ => true
  | .readRing _ _ _ => true
  | .setDoor _ _ _ => true
  | .assignTrailer _ _ _ => true
  | .dock _ _ _ => true
  | .undock _ _ _ => true
  | .openDoor _ _ _ => true
  | .closeDoor _ _ _ => true
  | .serviceDoor _ _ _ => true
  | .returnDoor _ _ _ => true
  | .readDoor _ _ _ => true
  | .setDefrost _ _ _ => true
  | .setSlots _ _ _ => true
  | .readDefrost _ _ _ => true
  | .requestDefrost _ _ _ => true
  | .inhibitDefrost _ _ _ => true
  | .restoreDefrost _ _ _ => true
  | .setChannel _ _ _ => true
  | .readChannel _ _ _ => true
  | .ackAlarm _ _ _ => true
  | .ackAll _ _ => true
  | .setMask _ _ _ _ => true
  | .readAlarms _ _ _ => true
  | .takeHoldForce _ _ _ => true
  | .dropHold _ _ _ => true
  | .readHolds _ _ => true
  | .takeNote _ _ => true
  | .setTerminal _ _ _ => true
  | .readNode _ _ _ => true
  | .setClock _ _ _ => true
  | .readClock _ _ => true
  | .commission _ _ _ => true
  | .identify _ _ => true
  | .status _ _ => true
  | .setNotices _ _ _ => true
  | .restart _ _ => true
  | .frameComplete _ => true
  | .interByteGapTimeout _ => true
  | .frameSent _ => true
  | .powerOnReset => true
  | .plantStopAssertion => true
  | .plantStopRelease => true
  | .runningSecondsTick => true
  | .poll => true
  | .replyWindowExpiry => true
  | .stalenessTimerExpiry _ => true
  | .refreshTimerExpiry _ => true
  | .warmDelayExpiry _ => true
  | .coldDelayExpiry _ => true
  | .allowanceTimerExpiry _ => true
  | .inflateTimerExpiry _ => true
  | .deflateTimerExpiry _ => true
  | .travelTimerExpiry _ => true
  | .recloseTimerExpiry _ => true
  | .closeWaitExpiry _ => true
  | .leakGraceExpiry _ => true
  | .intervalTimerExpiry _ => true
  | .deferralTimerExpiry _ => true
  | .durationTimerExpiry _ => true
  | .dripTimerExpiry _ => true
  | .recoveryTimerExpiry _ => true
  | .mismatchTimerExpiry _ => true
  | .byteReceived _ _ _ => true
  | .resetLineRelease => true

end Sys2Proof
end

