-- ==== Sys2Proof/Safety.lean ====
section
/-! DEFINITION. The terms in which claims are made: when a link's request reaches its block, the state in
which it has been answered, runs of several commands, and the invariants of the part. -/

namespace Sys2Proof.Machine

/-! ### Requests and their answers -/

/-- The command of a request. -/
def commandOf (l : Link) (tag : Byte) : Request → Instr
  | .setZone a => .setZone l tag a
  | .setProbe a => .setProbe l tag a
  | .readZone zone clear => .readZone l tag zone clear
  | .readProbe probe => .readProbe l tag probe
  | .setClass a => .setClass l tag a
  | .readClass cls => .readClass l tag cls
  | .admitPallets a => .admitPallets l tag a
  | .amendPallet a => .amendPallet l tag a
  | .readPallet pallet => .readPallet l tag pallet
  | .listPallets a => .listPallets l tag a
  | .releasePallet pallet => .releasePallet l tag pallet
  | .setLane a => .setLane l tag a
  | .blockLane lane => .blockLane l tag lane
  | .unblockLane lane => .unblockLane l tag lane
  | .readLane lane => .readLane l tag lane
  | .postMoves a => .postMoves l tag a
  | .runRing ring => .runRing l tag ring
  | .pauseRing ring => .pauseRing l tag ring
  | .clearRing ring => .clearRing l tag ring
  | .cancelHead ring => .cancelHead l tag ring
  | .readRing a => .readRing l tag a
  | .setDoor a => .setDoor l tag a
  | .assignTrailer a => .assignTrailer l tag a
  | .dock door => .dock l tag door
  | .undock door => .undock l tag door
  | .openDoor door => .openDoor l tag door
  | .closeDoor door => .closeDoor l tag door
  | .serviceDoor door => .serviceDoor l tag door
  | .returnDoor door => .returnDoor l tag door
  | .readDoor door => .readDoor l tag door
  | .setDefrost a => .setDefrost l tag a
  | .setSlots limit => .setSlots l tag limit
  | .readDefrost zone => .readDefrost l tag zone
  | .requestDefrost zone => .requestDefrost l tag zone
  | .inhibitDefrost zone => .inhibitDefrost l tag zone
  | .restoreDefrost zone => .restoreDefrost l tag zone
  | .setChannel a => .setChannel l tag a
  | .readChannel channel => .readChannel l tag channel
  | .ackAlarm a => .ackAlarm l tag a
  | .ackAll => .ackAll l tag
  | .setMask kind setting => .setMask l tag kind setting
  | .readAlarms start => .readAlarms l tag start
  | .takeHold door force => if force = 1 then .takeHoldForce l tag door else .takeHold l tag door force
  | .dropHold door => .dropHold l tag door
  | .readHolds => .readHolds l tag
  | .putNote text => .putNote l tag text
  | .takeNote => .takeNote l tag
  | .setTerminal a => .setTerminal l tag a
  | .readNode address => .readNode l tag address
  | .setClock time => .setClock l tag time
  | .readClock => .readClock l tag
  | .commission a => .commission l tag a
  | .identify => .identify l tag
  | .status => .status l tag
  | .setNotices groups => .setNotices l tag groups
  | .restart => .restart l tag

/-- R198, R201, R202, R169: the part is out of reset, the request finds a place in its link's input
buffer, its list fits a frame, and it passes every check of LI: commissioning, role and hold. -/
abbrev Ready (s : State) (l : Link) (r : Request) : Prop :=
  s.inReset = false ∧ (s.linkEnd l).places.length < 2 ∧ requestFits r = true ∧
  (s.dock.commissioning.done = true ∨ beforeCommissioning r = true) ∧
  (l = .site ∨ supervisorOnly r = false) ∧ s.holdPasses l r = true

/-- R200: the answer OK with what follows it. -/
abbrev okReply (data : List Byte) : Reply := { status := .ok, data := data }

/-- The byte of an index (R216). -/
abbrev idx {n : Nat} (i : Fin n) : Byte := byteOf i.val

/-- The same state with other dock records. -/
def State.on (s : State) (k : Dock) : State := { s with dock := k }

/-- R198 to R200, R203: a request has taken a place and its reply has been made ready; `t` is the
state that its block leaves. -/
def State.answered (t : State) (l : Link) (tag : Byte) (r : Request) (reply : Reply) : State :=
  ((t.modLink l (fun e => { e with places := e.places ++ [{ tag := tag, received := .known r }] })).makeReady l
    { overrun := false, code := requestCode r, tag := tag,
      body := reply.status.code :: reply.data }).settle

/-- Commands performed one after another. -/
def performAll : List Instr → State → Result
  | [], s => .next s
  | c :: rest, s =>
    match exec c s with
    | .next t => performAll rest t
    | o => o

/-! ### Invariants -/

/-- R163: a pending link exists only while the other link holds. -/
def Hold.coherent (h : Hold) : Prop := ∀ l, h.pending = some l → h.holder = some (otherLink l)

/-- R172: a note is 1 to 64 bytes long. -/
def noteOk (note : Option (List Byte)) : Prop := ∀ text, note = some text → 1 ≤ text.length ∧ text.length ≤ 64

/-- R163, R172: the hold table and the note slots. -/
structure HoldTableOk (s : State) : Prop where
  holds : ∀ d : Fin 16, (s.holds[d]).coherent
  toFloor : noteOk s.noteToFloor
  toSite : noteOk s.noteToSite

/-- R196: what a receiver keeps begins with the start byte and has no length byte below 5. -/
def receiverOk (bytes : List Byte) : Prop :=
  match bytes with
  | [] => True
  | [b] => b = Config.startByte
  | b :: len :: _ => b = Config.startByte ∧ 5 ≤ len.toNat

/-- R195, R198: the bounds of a link's buffer and waiting OVERRUN replies; R196: its receiver. -/
structure LinkEndOk (e : LinkEnd) : Prop where
  places : e.places.length ≤ 2
  overruns : (e.replies.filter (·.overrun)).length ≤ 2
  receiver : receiverOk e.receiver

/-- R195: both link ends. -/
structure LinksOk (s : State) : Prop where
  site : LinkEndOk s.site
  floor : LinkEndOk s.floor

/-- R195, R206: both notice queues hold at most 32 notices. -/
def QueuesOk (k : Dock) : Prop := ∀ l, (k.noticeEnd l).queue.length ≤ 32

/-- R148: at most 47 ordinary entries, one for each kind and subject, LIST_OVERFLOW in the reserved
entry alone; R159: the alarm line at the level that the list gives. -/
structure AlarmsOk (k : Dock) : Prop where
  room : k.alarms.length ≤ 47
  single : (k.alarms.map (fun e => (e.kind, e.subject))).Nodup
  ordinary : ∀ e ∈ k.alarms, e.kind ≠ .listOverflow
  reserved : ∀ e, k.overflow = some e → e.kind = .listOverflow ∧ e.subject = .site
  line : k.alarmLine = lineLevel k.mask k.alarms k.overflow

/-- R135: every channel's effective level is the one that its latch, its armed flag and the plant-stop
state give. -/
def ChannelsOk (k : Dock) : Prop :=
  ∀ c : Fin 48, (k.channels[c]).effective =
    effectiveLevel (channelKind c) (k.channels[c]).latch (k.channels[c]).armed k.plantStop

/-- R113, R119: every move gate stands as the phase gives. -/
def GatesOk (k : Dock) : Prop := ∀ z : Fin 8, (k.defrosts[z]).gate = (k.defrosts[z]).phase.gate

/-- R23, R24: slots rising within the table, tags unique and not 0, exposure and residue in range. -/
structure PalletsOk (k : Dock) : Prop where
  rising : (k.pallets.map (·.1)).Pairwise (· < ·)
  within : ∀ e ∈ k.pallets, e.1 < 1024
  single : (k.pallets.map (·.2.tag)).Nodup
  tags : ∀ e ∈ k.pallets, e.2.tag ≠ 0
  exposure : ∀ e ∈ k.pallets, e.2.exposure ≤ 65535
  residue : ∀ e ∈ k.pallets, e.2.residue < 960

end Sys2Proof.Machine
end

