-- ==== Sys2Proof/Certificates/Slice0/Obligations.lean ====
section
/-! DEFINITION. The statements for the provers. Each names the rules of spec/ that it rests on; where a
clause is the model's choice, its docstring names the log entry. -/

open Sys2Proof Sys2Proof.Machine

/-! ### The queue of commands and the Link Interface -/

/-- A step at a state with a command at the front of its queue is that command on the queue's rest; on
an empty queue the block idles, which is the model's choice (notes/assumptions/9.md). -/
def Obligations.StepTakesFrontCommand : Prop :=
  (∀ (c : Instr) (rest : List Instr) (s : State),
    step { s with pending := c :: rest } = exec c { s with pending := rest }) ∧
  (∀ s : State, s.pending = [] → step s = .next s)

/-- R198, R199, R200: a request that finds a place and passes the checks of LI takes the place, is
performed by its block, and its reply joins the replies of its link. -/
def Obligations.RequestAnswered : Prop :=
  ∀ (s : State) (l : Link) (tag : Byte) (r : Request), Ready s l r →
    exec (commandOf l tag r) s =
      .next ((s.performBlock l r).1.answered l tag r (s.performBlock l r).2)

/-- R201 checks 3 to 5, in their order: the refusal is answered and changes nothing else. -/
def Obligations.LinkChecksRefuse : Prop :=
  ∀ (s : State) (l : Link) (tag : Byte) (r : Request),
    s.inReset = false → (s.linkEnd l).places.length < 2 → requestFits r = true →
    (s.dock.commissioning.done = false → beforeCommissioning r = false →
      exec (commandOf l tag r) s = .next (s.answered l tag r { status := .notCommissioned })) ∧
    (s.dock.commissioning.done = true ∨ beforeCommissioning r = true →
      l = .floor → supervisorOnly r = true →
      exec (commandOf l tag r) s = .next (s.answered l tag r { status := .notPermitted })) ∧
    (s.dock.commissioning.done = true ∨ beforeCommissioning r = true →
      l = .site ∨ supervisorOnly r = false → s.holdPasses l r = false →
      exec (commandOf l tag r) s = .next (s.answered l tag r { status := .notHolder }))

/-- R200: a request that its block refuses changes nothing in the part. -/
def Obligations.RefusedRequestChangesNothing : Prop :=
  ∀ (s : State) (l : Link) (r : Request),
    (s.performBlock l r).2.status ≠ .ok → (s.performBlock l r).2.status ≠ .pending →
    (s.performBlock l r).1 = s

/-- R198: with both places taken a request is not performed; it is answered OVERRUN, or discarded when
two OVERRUN replies wait already. -/
def Obligations.OverrunNotPerformed : Prop :=
  ∀ (s : State) (l : Link) (tag : Byte) (r : Request),
    s.inReset = false → 2 ≤ (s.linkEnd l).places.length → requestFits r = true →
    (s.overruns l < 2 →
      exec (commandOf l tag r) s =
        .next (s.makeReady l { overrun := true, code := requestCode r, tag := tag, body := [0x15] }).settle) ∧
    (2 ≤ s.overruns l → exec (commandOf l tag r) s = .next s.settle)

/-- R201 checks 1 and 2: UNKNOWN_REQUEST for a code of no request, BAD_LENGTH for a body that a known
code does not allow; nothing else changes. -/
def Obligations.UnknownRequestAnswered : Prop :=
  ∀ (s : State) (l : Link) (tag code : Byte) (body : List Byte),
    s.inReset = false → (s.linkEnd l).places.length < 2 →
    (codeKnown code = false →
      exec (.unknownRequest l tag code body) s =
        .next (((s.modLink l (fun e =>
          { e with places := e.places ++ [{ tag := tag, received := .unknownCode code }] })).makeReady l
          { overrun := false, code := code, tag := tag, body := [0x10] }).settle)) ∧
    (codeKnown code = true → readRequest code body = none →
      exec (.unknownRequest l tag code body) s =
        .next (((s.modLink l (fun e =>
          { e with places := e.places ++ [{ tag := tag, received := .badLength code }] })).makeReady l
          { overrun := false, code := code, tag := tag, body := [0x11] }).settle))

/-- R205: SET_NOTICES, from either link, before and after commissioning: the set written or refused, the
other link's end and the waiting notices kept, and what the set governs from then on. -/
def Obligations.SetNoticesWritesGroups : Prop :=
  (∀ (s : State) (l : Link) (groups : Byte), s.inReset = false → (s.linkEnd l).places.length < 2 →
    Ready s l (.setNotices groups)) ∧
  (∀ (k : Dock) (l : Link) (g : BitVec 7),
    let k' := k.modNoticeEnd l ({ · with groups := g })
    (k'.noticeEnd l).groups = g ∧ (k'.noticeEnd l).queue = (k.noticeEnd l).queue ∧
    k'.noticeEnd (otherLink l) = k.noticeEnd (otherLink l) ∧
    (∀ n : Notice, (k'.noticeEnd l).subscribed n.group = g.getLsbD n.group.bit) ∧
    (∀ n : Notice, g.getLsbD n.group.bit = false → k'.notifyLink l n = k') ∧
    (∀ n : Notice, g.getLsbD n.group.bit = true →
      (k'.notifyLink l n).noticeEnd l = (k'.noticeEnd l).create n)) ∧
  ∀ (s : State) (l : Link) (tag groups : Byte), Ready s l (.setNotices groups) →
    (groups.toNat < 128 →
      exec (.setNotices l tag groups) s =
        .next ((s.on (s.dock.modNoticeEnd l ({ · with groups := groups.extractLsb' 0 7 }))).answered l tag
          (.setNotices groups) (okReply [groups]))) ∧
    (128 ≤ groups.toNat →
      exec (.setNotices l tag groups) s =
        .next (s.answered l tag (.setNotices groups) { status := .badArg }))

/-- R204, R206: a notice offered to a link of another group's subscription changes nothing; one of a
subscribed group takes the next sequence number and joins the end of the queue, or is dropped when 32
wait, which sets NOTICES_DROPPED. -/
def Obligations.NoticesQueued : Prop :=
  ∀ (e : NoticeEnd) (n : Notice),
    (e.subscribed n.group = false → e.offer n = e) ∧
    (e.subscribed n.group = true → e.queue.length < 32 →
      (e.offer n).queue = e.queue ++ [{ sequence := e.sequence, notice := n }] ∧
      (e.offer n).dropped = e.dropped) ∧
    (e.subscribed n.group = true → 32 ≤ e.queue.length →
      (e.offer n).queue = e.queue ∧ (e.offer n).dropped = true) ∧
    (e.subscribed n.group = true →
      (e.offer n).sequence = e.sequence + 1 ∧ (e.offer n).groups = e.groups)

/-- R208, R178, R8, R131: COMMISSION completes, writes the record, makes the fitted door and zone nodes
ONLINE, and starts the refresh and interval timers of the fitted zones. The layout of the reply (site number,
doors, zones, flag) is the model's (notes/assumptions/2.md). -/
def Obligations.CommissionBegins : Prop :=
  ∀ (s : State) (tag : Byte) (a : CommissionArgs), Ready s .site (.commission a) →
    s.dock.commissioning.done = false → a.siteNumber ≠ 0 → 1 ≤ a.doors.toNat → a.doors.toNat ≤ 16 →
    1 ≤ a.zones.toNat → a.zones.toNat ≤ 8 →
    let k := (s.dock.commission a).1
    exec (.commission .site tag a) s =
        .next ((s.on k).answered .site tag (.commission a)
          (okReply (halfBytes a.siteNumber ++ [a.doors, a.zones, 1]))) ∧
      k.commissioning = { done := true, siteNumber := a.siteNumber.toNat, doors := a.doors.toNat,
                          zones := a.zones.toNat } ∧
      (∀ d : Fin 16, d.val < a.doors.toNat →
        (k.nodes[Dock.doorNode d]).status = .online ∧ (k.nodes[Dock.doorNode d]).misses = 0) ∧
      (∀ z : Fin 8, z.val < a.zones.toNat →
        (k.nodes[Dock.zoneNode z]).status = .online ∧ (k.nodes[Dock.zoneNode z]).misses = 0 ∧
        (k.zones[z]).refresh = some s.dock.running ∧ (k.defrosts[z]).interval = true) ∧
      (∀ t : Fin 24, k.nodes[Dock.terminalNode t] = s.dock.nodes[Dock.terminalNode t]) ∧
      k.doors = s.dock.doors

/-- R211, R212 and the restart rules of the blocks: what a RESTART leaves. That the coil readings become
invalid is the model's choice between two sentences of R132 (notes/assumptions/17.md). -/
def Obligations.RestartQuietsPart : Prop :=
  ∀ (s : State) (tag : Byte), Ready s .site .restart →
    let t := (s.restart).1
    exec (.restart .site tag) s = .next (t.answered .site tag .restart (okReply (halfBytes (s.restarts + 1)))) ∧
      t.restarts = s.restarts + 1 ∧
      (∀ d : Fin 16, t.holds[d] = {}) ∧ t.noteToFloor = none ∧ t.noteToSite = none ∧
      t.transaction = none ∧ t.lastPolled = none ∧
      (∀ r : Fin 20, (t.dock.rings[r]).waiting = [] ∧ (t.dock.rings[r]).state = .halted ∧
        (t.dock.rings[r]).head = (s.dock.rings[r]).head) ∧
      (∀ d : Fin 16, s.dock.doorFitted d = true →
        (t.dock.doors[d]).state = .resync ∧ (t.dock.doors[d]).timers = {} ∧ (t.dock.doors[d]).through = 0) ∧
      (∀ z : Fin 8, (t.dock.defrosts[z]).phase = .cooling ∧ (t.dock.defrosts[z]).slot = false ∧
        (t.dock.defrosts[z]).coil = none) ∧
      (∀ c : Fin 48, (t.dock.channels[c]).owner = .sequencer ∧ (t.dock.channels[c]).armed = false ∧
        (t.dock.channels[c]).effective = (channelKind c).safe) ∧
      (∀ e ∈ t.dock.pallets, ∀ r p, e.2.loc ≠ .transit r p) ∧
      (∀ l : Link, (t.dock.noticeEnd l).queue = [] ∧ (t.dock.noticeEnd l).dropped = true ∧
        (t.dock.noticeEnd l).groups = (s.dock.noticeEnd l).groups ∧ (t.linkEnd l).receiver = []) ∧
      t.dock.commissioning = s.dock.commissioning ∧ t.dock.running = s.dock.running ∧
      t.dock.offset = s.dock.offset ∧ t.dock.classes = s.dock.classes ∧
      t.dock.plantStop = s.dock.plantStop ∧ t.dock.mask = s.dock.mask ∧
      t.dock.slotLimit = s.dock.slotLimit

/-- R213, R146: the power-on values, and the end of power-on reset with the line at either level. The
queue of commands stands outside the reset, and the channels are recomputed in ascending number: the
model's choices (notes/assumptions/6.md and 4.md). -/
def Obligations.ResetAndRelease : Prop :=
  ∀ s : State,
    exec .powerOnReset s =
      .next { State.reset with plantLine := s.plantLine, pending := s.pending, inReset := true } ∧
    (s.inReset = true → s.plantLine = false →
      exec .resetLineRelease s = .next ({ s with inReset := false } : State).settle) ∧
    (s.inReset = true → s.plantLine = true →
      exec .resetLineRelease s =
        .next ({ s with inReset := false,
                        dock := (s.dock.setPlantStop true).raise .plantStop .site } : State).settle)

/-- R196, R197, R198, R203: the link events. A byte joins the frame that is being assembled or hunted
for; a gap discards the frame; a complete frame with a right CRC is received as a request, or discarded
without a reply when it is of another kind; one with a wrong CRC starts the hunt behind its start byte; the
end of a reply frees the oldest place. -/
def Obligations.LinkEventsComplete : Prop :=
  ∀ (s : State) (l : Link), s.inReset = false →
    (∀ b, completeFrame (s.linkEnd l).receiver = none →
      exec (.byteReceived l b true) s =
        .next (s.modLink l (fun e => { e with receiver := hunt (e.receiver ++ [b]) })).settle) ∧
    (∀ b, completeFrame (s.linkEnd l).receiver = none →
      exec (.byteReceived l b false) s = .next (s.modLink l ({ · with receiver := [] })).settle) ∧
    (completeFrame (s.linkEnd l).receiver = none →
      exec (.interByteGapTimeout l) s = .next (s.modLink l ({ · with receiver := [] })).settle) ∧
    (∀ frame rest len code tag body, completeFrame (s.linkEnd l).receiver = some (frame, rest) →
      frameChecked frame = some (len :: requestKind :: code :: tag :: body) →
      exec (.frameComplete l) s =
        .next ((s.modLink l ({ · with receiver := hunt rest })).receive l tag (judge code body)).settle) ∧
    (∀ frame rest len kind code tag body, completeFrame (s.linkEnd l).receiver = some (frame, rest) →
      frameChecked frame = some (len :: kind :: code :: tag :: body) → kind ≠ requestKind →
      exec (.frameComplete l) s = .next (s.modLink l ({ · with receiver := hunt rest })).settle) ∧
    (∀ frame rest, completeFrame (s.linkEnd l).receiver = some (frame, rest) →
      frameChecked frame = none →
      exec (.frameComplete l) s =
        .next (s.modLink l (fun e => { e with receiver := hunt e.receiver.tail })).settle) ∧
    (∀ frame, (s.linkEnd l).sending = some { kind := .reply, frame := frame } →
      exec (.frameSent l) s =
        .next (s.modLink l (fun e => { e with sending := none, places := e.places.tail })).settle) ∧
    (∀ kind frame, kind ≠ .reply → (s.linkEnd l).sending = some { kind := kind, frame := frame } →
      exec (.frameSent l) s = .next (s.modLink l ({ · with sending := none })).settle)

/-- R215, R217: every request whose list fits a frame is read back from its code and its body. -/
def Obligations.RequestBodyRoundTrip : Prop :=
  ∀ r : Request, requestFits r = true → judge (requestCode r) (requestBody r) = .known r

/-- R196, R197, R214: a request frame whose bytes arrive one by one at a hunting receiver and whose
completion is then taken is the request's command; `s.settle = s` says that no idle transmitter has
anything to send. -/
def Obligations.FrameReceivedWhole : Prop :=
  ∀ (s : State) (l : Link) (tag : Byte) (r : Request), requestFits r = true →
    s.inReset = false → (s.linkEnd l).receiver = [] → s.settle = s →
    performAll
      ((frameBytes requestKind (requestCode r) tag (requestBody r)).map (.byteReceived l · true) ++
        [.frameComplete l]) s =
      exec (commandOf l tag r) s

/-! ### Requests that read -/

/-- R17, R18, R22, R48: the reads of zones, probes, classes and lanes. The layouts that Chapter 11 does
not tabulate are the model's choice (notes/assumptions/2.md). -/
def Obligations.ZoneAndLaneReadsAnswer : Prop :=
  ∀ (s : State) (l : Link) (tag : Byte),
    (∀ z : Fin 8, Ready s l (.readZone (idx z) 0) → s.dock.zoneFitted z = true →
      exec (.readZone l tag (idx z) 0) s =
        .next (s.answered l tag (.readZone (idx z) 0) (okReply (s.dock.zoneRecord z (s.dock.zones[z]).inexact)))) ∧
    (∀ z : Fin 8, Ready s l (.readZone (idx z) 1) → s.dock.zoneFitted z = true →
      exec (.readZone l tag (idx z) 1) s =
        .next ((s.on (s.dock.modZone z ({ · with inexact := false }))).answered l tag (.readZone (idx z) 1)
          (okReply (s.dock.zoneRecord z (s.dock.zones[z]).inexact)))) ∧
    (∀ p : Fin 32, Ready s l (.readProbe (idx p)) →
      exec (.readProbe l tag (idx p)) s =
        .next (s.answered l tag (.readProbe (idx p)) (okReply (s.dock.probeRecord p)))) ∧
    (∀ c : Fin 8, Ready s l (.readClass (idx c)) →
      exec (.readClass l tag (idx c)) s =
        .next (s.answered l tag (.readClass (idx c)) (okReply (s.dock.classRecord c)))) ∧
    (∀ n : Fin 24, Ready s l (.readLane (idx n)) →
      exec (.readLane l tag (idx n)) s =
        .next (s.answered l tag (.readLane (idx n)) (okReply (s.dock.laneRecord n))))

/-- R106, R112, R145, R61: the reads of doors, defrosts, channels and rings; READ_RING clears the flags
whose options are given, after it has reported them. The layouts that Chapter 11 does not tabulate are
the model's choice (notes/assumptions/2.md). -/
def Obligations.DoorAndRingReadsAnswer : Prop :=
  ∀ (s : State) (l : Link) (tag : Byte),
    (∀ d : Fin 16, Ready s l (.readDoor (idx d)) → s.dock.doorFitted d = true →
      exec (.readDoor l tag (idx d)) s =
        .next (s.answered l tag (.readDoor (idx d)) (okReply (s.dock.doorRecord d)))) ∧
    (∀ z : Fin 8, Ready s l (.readDefrost (idx z)) → s.dock.zoneFitted z = true →
      exec (.readDefrost l tag (idx z)) s =
        .next (s.answered l tag (.readDefrost (idx z))
          (okReply (s.dock.defrostRecord z ++ [byteOf s.dock.slotLimit, byteOf s.dock.slotsHeld])))) ∧
    (∀ c : Fin 48, Ready s l (.readChannel (idx c)) → s.dock.channelFitted c = true →
      exec (.readChannel l tag (idx c)) s =
        .next (s.answered l tag (.readChannel (idx c)) (okReply (s.dock.channelReply c)))) ∧
    (∀ (r : Fin 20) (offset clear : Byte), Ready s l (.readRing ⟨idx r, offset, clear⟩) →
      s.dock.ringFitted r = true → offset.toNat ≤ 31 → clear.toNat ≤ 3 →
      exec (.readRing l tag ⟨idx r, offset, clear⟩) s =
        .next ((s.on (s.dock.modRing r (fun ring =>
            { ring with
              drained := ring.drained && !clear.getLsbD 0
              unplanned := ring.unplanned && !clear.getLsbD 1 }))).answered l tag
          (.readRing ⟨idx r, offset, clear⟩) (okReply (s.dock.ringReply r offset.toNat))))

/-- R160, R171, R190, R192, R209, R210: the reads of alarms, holds, nodes, the clock, the identity and
the status; STATUS then clears the NOTICES_DROPPED flag of the requesting link. READ_HOLDS carries the
holder and the pending link of the sixteen doors and the lengths of the two notes; IDENTIFY carries the
codes, the capacities in R209's order and the commissioning record. The layouts that Chapter 11 does not
tabulate are the model's choice (notes/assumptions/2.md). -/
def Obligations.SiteReadsAnswer : Prop :=
  ∀ (s : State) (l : Link) (tag : Byte),
    (∀ start : Byte, Ready s l (.readAlarms start) → start.toNat ≤ 48 →
      exec (.readAlarms l tag start) s =
        .next (s.answered l tag (.readAlarms start) (okReply (s.dock.alarmsReply start.toNat)))) ∧
    (Ready s l .readHolds →
      exec (.readHolds l tag) s = .next (s.answered l tag .readHolds (okReply
        ((List.finRange 16).flatMap (fun d =>
            [linkCode (s.holds[d]).holder, linkCode (s.holds[d]).pending]) ++
          [byteOf (s.noteToFloor.getD []).length, byteOf (s.noteToSite.getD []).length])))) ∧
    (∀ n : Fin 48, Ready s l (.readNode (byteOf (n.val + 1))) →
      exec (.readNode l tag (byteOf (n.val + 1))) s =
        .next (s.answered l tag (.readNode (byteOf (n.val + 1))) (okReply (s.dock.nodeReply n)))) ∧
    (Ready s l .readClock →
      exec (.readClock l tag) s = .next (s.answered l tag .readClock (okReply s.dock.clockBytes))) ∧
    (Ready s l .identify →
      exec (.identify l tag) s = .next (s.answered l tag .identify (okReply
        ([0x0B, 0x41, 0x58, 0x16, 3, 16, 8, 32, 4, 24, 12, 20, 32, 0x04, 0x00, 8, 48, 48, 24, 47, 1, 4, 2,
            32, 250, 64, flagByte s.dock.commissioning.done] ++
          numBytes2 s.dock.commissioning.siteNumber ++
          [byteOf s.dock.commissioning.doors, byteOf s.dock.commissioning.zones])))) ∧
    (Ready s l .status →
      exec (.status l tag) s =
        .next ((s.on (s.dock.modNoticeEnd l ({ · with dropped := false }))).answered l tag .status
          (okReply (s.statusBytes l))))

/-! ### Zones, probes and their timers -/

/-- R2: SET_ZONE writes the six fields and updates the zone. That the reply's INEXACT flag is the one
before the request is the model's choice between R218 and R2 (notes/assumptions/20.md). -/
def Obligations.SetZoneWritesAndUpdates : Prop :=
  ∀ (s : State) (tag : Byte) (a : SetZone) (z : Fin 8) (kind : ZoneKind) (mode : Rounding),
    Ready s .site (.setZone a) → a.zone = idx z → s.dock.zoneFitted z = true →
    readZoneKind a.kind = some kind → readRounding a.rounding = some mode → Dock.zoneFieldsOk a = true →
    (kind = (s.dock.zones[z]).kind ∨ s.dock.zoneInUse z = false) →
    let k := (s.dock.modZone z ({ · with
      kind := kind, setPoint := a.setPoint.toInt, highLimit := a.highLimit.toInt,
      lowLimit := a.lowLimit.toInt, alarmDelay := a.alarmDelay.toNat, rounding := mode })).zoneUpdate z none
    exec (.setZone .site tag a) s =
      .next ((s.on k).answered .site tag (.setZone a) (okReply (k.zoneRecord z (s.dock.zones[z]).inexact)))

/-- R5: the five rows of SET_PROBE. Of the two updates of a rebinding the left zone's comes first, and what a
leaving probe clears is cleared before the updates: the model's choice (notes/assumptions/4.md). -/
def Obligations.SetProbeBinds : Prop :=
  ∀ (s : State) (tag : Byte) (a : SetProbe) (p : Fin 32),
    Ready s .site (.setProbe a) → a.probe = idx p → -50 ≤ a.offset.toInt → a.offset.toInt ≤ 50 →
    let k := s.dock.modProbe p ({ · with offset := a.offset.toInt })
    let done := fun (k' : Dock) => (Host.Outcome.next
      ((s.on k').answered .site tag (.setProbe a) (okReply (k'.probeRecord p))) : Result)
    let bind := fun (z : Fin 8) => k.modProbe p
      ({ · with bound := some z, raw := 0, readTime := s.dock.running, status := .stale })
    ((s.dock.probes[p]).bound = none → a.target = 0xFF → exec (.setProbe .site tag a) s = done k) ∧
    (∀ z : Fin 8, (s.dock.probes[p]).bound = none → a.target = idx z → s.dock.zoneFitted z = true →
      (s.dock.boundProbes z).length < 4 →
      exec (.setProbe .site tag a) s = done ((bind z).zoneUpdate z none)) ∧
    (∀ y : Fin 8, (s.dock.probes[p]).bound = some y → a.target = 0xFF →
      exec (.setProbe .site tag a) s =
        done (((k.modProbe p ({ · with bound := none, raw := 0, status := .unbound })).probeLeft p
          y).zoneUpdate y none)) ∧
    (∀ y : Fin 8, (s.dock.probes[p]).bound = some y → a.target = idx y → s.dock.zoneFitted y = true →
      exec (.setProbe .site tag a) s = done (k.zoneUpdate y none)) ∧
    (∀ y z : Fin 8, (s.dock.probes[p]).bound = some y → z ≠ y → a.target = idx z →
      s.dock.zoneFitted z = true → (s.dock.boundProbes z).length < 4 →
      exec (.setProbe .site tag a) s = done ((((bind z).probeLeft p y).zoneUpdate y none).zoneUpdate z none))

/-- R9 to R12: what a zone update writes into its zone, and that it writes no other zone's temperature. -/
def Obligations.ZoneUpdateSetsTemperature : Prop :=
  ∀ (k : Dock) (z : Fin 8) (readings : Option (List Int)),
    let k1 := match readings with
      | none => k
      | some rs => k.intake z rs
    let cs := k1.contributions z
    let before := k.zones[z]
    let after := (k.zoneUpdate z readings).zones[z]
    after.lastUpdate = k.running ∧ after.refresh = some k.running ∧
      (cs = [] → after.tz = before.highLimit ∧ after.tempStatus = .substituted ∧
        after.inexact = before.inexact) ∧
      (cs ≠ [] → after.tz = roundedMean before.rounding cs.sum cs.length ∧ after.tempStatus = .valid ∧
        after.inexact = (before.inexact || meanInexact cs.sum cs.length)) ∧
      (∀ y : Fin 8, y ≠ z → ((k.zoneUpdate z readings).zones[y]).tz = (k.zones[y]).tz ∧
        ((k.zoneUpdate z readings).zones[y]).tempStatus = (k.zones[y]).tempStatus ∧
        ((k.zoneUpdate z readings).zones[y]).lastUpdate = (k.zones[y]).lastUpdate)

/-- R11: the three rounding modes, the exact and the inexact mean, and the sticky INEXACT flag with what
clears it. -/
def Obligations.RoundingModesRight : Prop :=
  (∀ (k : Dock) (z : Fin 8) (readings : Option (List Int)),
    let cs := (match readings with
      | none => k
      | some rs => k.intake z rs).contributions z
    let zn := (k.zoneUpdate z readings).zones[z]
    cs ≠ [] → zn.tz = roundedMean (k.zones[z]).rounding cs.sum cs.length ∧
      (¬ (cs.length : Int) ∣ cs.sum → zn.inexact = true) ∧
      ((cs.length : Int) ∣ cs.sum → zn.inexact = (k.zones[z]).inexact)) ∧
  (∀ (s : State) (l : Link) (tag : Byte) (z : Fin 8), Ready s l (.readZone (idx z) 1) →
    s.dock.zoneFitted z = true →
    exec (.readZone l tag (idx z) 1) s =
      .next ((s.on (s.dock.modZone z ({ · with inexact := false }))).answered l tag (.readZone (idx z) 1)
        (okReply (s.dock.zoneRecord z (s.dock.zones[z]).inexact)))) ∧
  (∀ (s : State) (z : Fin 8), ∃ t, exec .powerOnReset s = .next t ∧ (t.dock.zones[z]).inexact = false) ∧
  ∀ (s : Int) (n : Nat), 0 < n →
    (s ≤ roundedMean .towardWarm s n * n ∧ (roundedMean .towardWarm s n - 1) * n < s) ∧
    (roundedMean .towardCold s n * n ≤ s ∧ s < (roundedMean .towardCold s n + 1) * n) ∧
    (-(n : Int) ≤ 2 * (roundedMean .nearestEven s n * n - s) ∧
      2 * (roundedMean .nearestEven s n * n - s) ≤ n ∧
      (2 * (roundedMean .nearestEven s n * n - s) = n ∨
        2 * (roundedMean .nearestEven s n * n - s) = -(n : Int) →
        roundedMean .nearestEven s n % 2 = 0)) ∧
    ((n : Int) ∣ s → ∀ mode, roundedMean mode s n * n = s)

/-- R7, R8, R14, R15, R70: the expiries of the staleness, refresh, watch and allowance timers, each when
its length has passed since its start. -/
def Obligations.SensorTimersExpire : Prop :=
  ∀ s : State, s.inReset = false →
    (∀ (p : Fin 32) (z : Fin 8), (s.dock.probes[p]).bound = some z →
      ((s.dock.probes[p]).status = .ok ∨ (s.dock.probes[p]).status = .outOfRange) →
      (s.dock.probes[p]).readTime + 120 ≤ s.dock.running →
      exec (.stalenessTimerExpiry p) s =
        .next (s.on ((s.dock.modProbe p ({ · with status := .stale })).zoneUpdate z none)).settle) ∧
    (∀ (z : Fin 8) (start : Nat), (s.dock.zones[z]).refresh = some start → start + 60 ≤ s.dock.running →
      exec (.refreshTimerExpiry z) s = .next (s.on (s.dock.zoneUpdate z none)).settle) ∧
    (∀ (z : Fin 8) (start : Nat), (s.dock.zones[z]).warm = .timing start →
      start + (s.dock.zones[z]).alarmDelay ≤ s.dock.running →
      exec (.warmDelayExpiry z) s =
        .next (s.on ((s.dock.modZone z ({ · with warm := .raised })).raise .zoneWarm (.zone z))).settle) ∧
    (∀ (z : Fin 8) (start : Nat), (s.dock.zones[z]).cold = .timing start →
      start + (s.dock.zones[z]).alarmDelay ≤ s.dock.running →
      exec (.coldDelayExpiry z) s =
        .next (s.on ((s.dock.modZone z ({ · with cold := .raised })).raise .zoneCold (.zone z))).settle) ∧
    (∀ (r : Fin 20) (m : Descriptor) (rest : List Descriptor) (start : Nat),
      (s.dock.rings[r]).waiting = m :: rest → m.status = .picked → m.overdue = false →
      m.pickTime = some start → start + m.allowance ≤ s.dock.running →
      exec (.allowanceTimerExpiry r) s =
        .next (s.on ((s.dock.modRing r ({ · with waiting := { m with overdue := true } :: rest })).raise
          .moveOverdue (.ring r))).settle)

/-! ### Classes and pallets -/

/-- R22: SET_CLASS accrues the pallets of the class, writes it, and grades them again. R29 gives the
records no order; slot order is the model's choice (notes/assumptions/4.md). -/
def Obligations.SetClassRegrades : Prop :=
  ∀ (s : State) (tag : Byte) (a : SetClass) (c : Fin 8),
    Ready s .site (.setClass a) → a.cls = idx c → classFieldsOk a = true →
    let slots := s.dock.slotsWhere (fun p => decide (p.cls = c))
    let k1 := s.dock.accrueSlots slots
    let k2 := slots.foldl (fun k slot => k.regrade slot)
      { k1 with classes := tmod k1.classes c (fun _ =>
          { limit := a.limit.toInt, weight := a.weight.toNat, budget := a.budget.toNat,
            warn := a.warn.toNat }) }
    exec (.setClass .site tag a) s =
      .next ((s.on k2).answered .site tag (.setClass a) (okReply (k2.classRecord c)))

/-- R24, R25, R26, R49: ADMIT completes; the entries take the lowest-numbered empty slots in entry order,
each with the record of R26, the records that stood keep their slots, and a lane's occupied count rises
by the number of entries. The count byte in front of the reply's slots is the model's choice
(notes/assumptions/2.md). -/
def Obligations.AdmissionTakesEmptySlots : Prop :=
  (∀ (s : State) (l : Link) (tag : Byte) (a : Admit) (spot : Spot) (entries : List Entry),
    Ready s l (.admitPallets a) → readAdmitSpot a.location = some spot →
    readEvery readEntry a.entries = some entries → 1 ≤ a.entries.length → a.entries.length ≤ 16 →
    s.dock.admitRefusal spot entries = none →
    let r := s.dock.admitEvery spot entries
    let k := match spot with
      | .lane n => r.1.modLane n (fun ln => { ln with occupied := ln.occupied + entries.length })
      | _ => r.1
    exec (.admitPallets l tag a) s =
      .next ((s.on k).answered l tag (.admitPallets a)
        (okReply (byteOf entries.length :: r.2.flatMap numBytes2)))) ∧
  (∀ (k : Dock) (spot : Spot) (entries : List Entry), PalletsOk k →
    let r := k.admitEvery spot entries
    r.2.length = entries.length ∧ r.2.Pairwise (· < ·) ∧
    (∀ (i : Nat) (e : Entry), entries[i]? = some e → ∃ slot, r.2[i]? = some slot ∧
      k.palletAt slot = none ∧ (∀ lower : Nat, lower < slot → k.palletAt lower = none → lower ∈ r.2.take i) ∧
      (k.pallets.length + entries.length ≤ 1024 → slot < 1024) ∧
      r.1.palletAt slot = some
        { tag := e.tag, cls := e.cls, budget := e.override.getD (k.classes[e.cls]).budget, exposure := 0,
          residue := 0, stamp := k.running, loc := .at spot, grade := .ok, quarantine := false,
          saturated := false, substituted := false, revision := 0 }) ∧
    (∀ (slot : Nat) (p : Pallet), k.palletAt slot = some p → r.1.palletAt slot = some p))

/-- R39, R40: AMEND_PALLET in its order, and its STALE refusal. -/
def Obligations.AmendPalletConditional : Prop :=
  ∀ (s : State) (l : Link) (tag : Byte) (a : AmendPallet) (c : Changes) (slot : Nat) (p : Pallet),
    Ready s l (.amendPallet a) → readChanges a = some c → (l = .site ∨ c.supervisor = false) →
    s.dock.findTag a.tag = some (slot, p) →
    (a.revision ≠ p.revision →
      exec (.amendPallet l tag a) s =
        .next (s.answered l tag (.amendPallet a) { status := .stale, data := halfBytes p.revision })) ∧
    (a.revision = p.revision → (c.cls = none ∨ Dock.inTransit p = false) →
      let k := ((s.dock.accrue slot).modPallet slot (fun q =>
        { q with
          budget := c.budget.getD q.budget
          cls := c.cls.getD q.cls
          quarantine := (q.quarantine || c.quarantineSet) && !c.quarantineClear
          revision := q.revision + 1 })).regrade slot
      exec (.amendPallet l tag a) s =
        .next ((s.on k).answered l tag (.amendPallet a) (okReply (k.palletRecordAt slot))))

/-- R41, R42, R43: READ_PALLET and LIST_PALLETS accrue what they report; RELEASE_PALLET accrues the
record, clears its EXPOSURE_SPENT condition and empties its slot. R29 gives the records of one event no
order; slot order is the model's choice (notes/assumptions/4.md). -/
def Obligations.PalletReadsAndRelease : Prop :=
  ∀ (s : State) (l : Link) (tag : Byte),
    (∀ (w : Word) (slot : Nat) (p : Pallet), Ready s l (.readPallet w) → w ≠ 0 →
      s.dock.findTag w = some (slot, p) →
      exec (.readPallet l tag w) s =
        .next ((s.on (s.dock.accrue slot)).answered l tag (.readPallet w)
          (okReply ((s.dock.accrue slot).palletRecordAt slot)))) ∧
    (∀ (a : ListPallets) (f : Filter), Ready s l (.listPallets a) → readFilter a.filter = some f →
      a.start.toNat ≤ 1024 → s.dock.filterFitted f = true →
      let slots := s.dock.listedSlots f a.start.toNat
      let k := s.dock.accrueSlots slots
      exec (.listPallets l tag a) s =
        .next ((s.on k).answered l tag (.listPallets a)
          (okReply (numBytes2 (Dock.nextSlot slots) ++ [byteOf slots.length] ++
            slots.flatMap k.palletSummaryAt)))) ∧
    (∀ (w : Word) (slot : Nat) (p : Pallet), l = .site → Ready s l (.releasePallet w) → w ≠ 0 →
      s.dock.findTag w = some (slot, p) → (p.loc = .departed ∨ p.loc = .adrift) →
      s.dock.tagWaiting w = false →
      let k := s.dock.accrue slot
      exec (.releasePallet l tag w) s =
        .next ((s.on ((k.clearCondition .exposureSpent (.pallet w)).emptySlot slot)).answered l tag
          (.releasePallet w) (okReply (k.palletRecordAt slot))))

/-- R31: the accrual of one record at its source and class, ending in the recomputation of its grade:
nothing is rounded away, the exposure never falls, saturation, the stamp and the substitution mark. -/
def Obligations.AccrualIsExact : Prop :=
  (∀ (k : Dock) (slot : Nat) (p : Pallet), k.palletAt slot = some p →
    k.accrue slot = (k.modPallet slot (fun _ =>
      accrueRecord (k.source p) k.classes[p.cls] k.running p)).regrade slot) ∧
  ∀ (src : Option Source) (c : PalletClass) (now : Nat) (p : Pallet), p.exposure ≤ 65535 →
    let dt := min 900 (now - p.stamp)
    let e := match src with
      | none => 0
      | some t => (t.temp - c.limit).toNat
    let n := p.residue + e * dt * c.weight
    let p' := accrueRecord src c now p
    (p.exposure + n / 960 ≤ 65535 →
      960 * p'.exposure + p'.residue = 960 * p.exposure + n ∧ p'.saturated = p.saturated) ∧
    (65535 < p.exposure + n / 960 →
      p'.exposure = 65535 ∧ p'.residue = 0 ∧ p'.saturated = true) ∧
    p.exposure ≤ p'.exposure ∧ p'.exposure ≤ 65535 ∧ p'.residue < 960 ∧ p'.stamp = now ∧
    p'.substituted = (p.substituted || decide (0 < e ∧ src.any (·.substituted) = true)) ∧
    { p' with exposure := p.exposure, residue := p.residue, saturated := p.saturated, stamp := p.stamp,
              substituted := p.substituted } = p

/-- R31 and the first worked example of Chapter 2: the charge does not depend on how often a record is
accrued. -/
def Obligations.AccrualSplits : Prop :=
  ∀ (src : Option Source) (c : PalletClass) (p : Pallet) (t1 t2 : Nat),
    p.stamp ≤ t1 → t1 ≤ t2 → t2 ≤ p.stamp + 900 → p.residue < 960 →
    p.exposure + (p.residue + excess src c * (t2 - p.stamp) * c.weight) / 960 ≤ 65535 →
    accrueRecord src c t2 (accrueRecord src c t1 p) = accrueRecord src c t2 p

/-- R32 to R35: the grade table, and what a recomputation does to the record. -/
def Obligations.RegradeFollowsTable : Prop :=
  (∀ x b w : Nat, (b ≤ x → gradeOf x b w = .spent) ∧
    (x < b → b * w ≤ x * 256 → gradeOf x b w = .warn) ∧
    (x < b → x * 256 < b * w → gradeOf x b w = .ok)) ∧
  (∀ (k : Dock) (slot : Nat) (p : Pallet), k.palletAt slot = some p →
    let g := gradeOf p.exposure p.budget (k.classes[p.cls]).warn
    (g = p.grade → k.regrade slot = k) ∧
    (g ≠ p.grade → (k.regrade slot).palletAt slot = some
      { p with grade := g, revision := p.revision + 1,
               quarantine := p.quarantine || decide (g = .spent) }) ∧
    (∀ other : Nat, other ≠ slot → (k.regrade slot).palletAt other = k.palletAt other))

/-! ### Lanes, rings and moves -/

/-- R47, R48, R56, R57, R58: the requests that write lanes and ring states. -/
def Obligations.LaneAndRingRequests : Prop :=
  ∀ (s : State) (l : Link) (tag : Byte),
    (∀ (a : SetLane) (n : Fin 24) (z : Fin 8) (st : LaneState), Ready s .site (.setLane a) →
      a.lane = idx n → a.zone = idx z → readLaneState a.state = some st → a.capacity.toNat ≤ 12 →
      s.dock.zoneFitted z = true → s.dock.laneInUse n z a.capacity.toNat = false →
      let k := s.dock.modLane n ({ · with zone := z, capacity := a.capacity.toNat, state := st })
      exec (.setLane .site tag a) s =
        .next ((s.on k).answered .site tag (.setLane a) (okReply (k.laneRecord n)))) ∧
    (∀ n : Fin 24, Ready s l (.blockLane (idx n)) → s.dock.laneFitted n = true →
      exec (.blockLane l tag (idx n)) s =
        .next ((s.on (s.dock.modLane n ({ · with state := .blocked }))).answered l tag
          (.blockLane (idx n)) (okReply []))) ∧
    (∀ n : Fin 24, Ready s l (.unblockLane (idx n)) → s.dock.laneFitted n = true →
      exec (.unblockLane l tag (idx n)) s =
        .next ((s.on (s.dock.modLane n ({ · with state := .enabled }))).answered l tag
          (.unblockLane (idx n)) (okReply []))) ∧
    (∀ r : Fin 20, Ready s l (.runRing (idx r)) → s.dock.ringFitted r = true →
      ((s.dock.rings[r]).state ≠ .halted ∨ (s.dock.rings[r]).waiting ≠ [] →
        exec (.runRing l tag (idx r)) s =
          .next ((s.on (s.dock.modRing r ({ · with state := .run }))).answered l tag (.runRing (idx r))
            (okReply []))) ∧
      ((s.dock.rings[r]).state = .halted → (s.dock.rings[r]).waiting = [] →
        exec (.runRing l tag (idx r)) s = .next (s.answered l tag (.runRing (idx r)) (okReply [])))) ∧
    (∀ r : Fin 20, Ready s l (.pauseRing (idx r)) → s.dock.ringFitted r = true →
      ((s.dock.rings[r]).state ≠ .halted →
        exec (.pauseRing l tag (idx r)) s =
          .next ((s.on (s.dock.modRing r ({ · with state := .paused }))).answered l tag
            (.pauseRing (idx r)) (okReply []))) ∧
      ((s.dock.rings[r]).state = .halted →
        exec (.pauseRing l tag (idx r)) s =
          .next (s.answered l tag (.pauseRing (idx r)) { status := .badState }))) ∧
    (∀ r : Fin 20, Ready s l (.clearRing (idx r)) → s.dock.ringFitted r = true →
      (s.dock.headPicked r = false →
        exec (.clearRing l tag (idx r)) s =
          .next ((s.on (s.dock.modRing r (fun ring =>
              { ring with head := ring.tail, waiting := [], state := .halted }))).answered l tag
            (.clearRing (idx r)) (okReply [byteOf (s.dock.rings[r]).waiting.length]))) ∧
      (s.dock.headPicked r = true →
        exec (.clearRing l tag (idx r)) s =
          .next (s.answered l tag (.clearRing (idx r)) { status := .badState })))

/-- R53, R54: POST_MOVES writes its descriptors behind the waiting entries. The count byte in front of the
reply's positions is the model's choice (notes/assumptions/2.md). -/
def Obligations.PostMovesAppends : Prop :=
  ∀ (s : State) (l : Link) (tag : Byte) (a : PostMoves) (r : Fin 20) (ms : List Descriptor),
    Ready s l (.postMoves a) → a.ring = idx r → readEvery (readMove r) a.moves = some ms →
    1 ≤ ms.length → ms.length ≤ 8 → s.dock.ringFitted r = true →
    (∀ m ∈ ms, s.dock.spotFitted m.source = true ∧ s.dock.spotFitted m.dest = true) →
    (∀ m ∈ ms, s.dock.sourceOk m.source = true ∧ s.dock.destOk m.dest = true) →
    (∀ m ∈ ms, s.dock.tagWaiting m.tag = false) → (ms.map (·.tag)).Nodup →
    (s.dock.rings[r]).waiting.length + ms.length ≤ 32 →
    let before := (s.dock.rings[r]).waiting.length
    exec (.postMoves l tag a) s =
      .next ((s.on (s.dock.modRing r (fun ring => { ring with waiting := ring.waiting ++ ms }))).answered
        l tag (.postMoves a) (okReply (byteOf ms.length ::
          (List.range ms.length).map (fun i => byteOf ((s.dock.rings[r]).positionOf (before + i)).val) ++
          [byteOf (before + ms.length)])))

/-- R59, R60, R52: CANCEL_HEAD of a PENDING and of a PICKED head; a PICKED one leaves its pallet ADRIFT. -/
def Obligations.CancelHeadAbandons : Prop :=
  ∀ (s : State) (l : Link) (tag : Byte) (r : Fin 20) (m : Descriptor) (rest : List Descriptor),
    Ready s l (.cancelHead (idx r)) → s.dock.ringFitted r = true →
    (s.dock.rings[r]).waiting = m :: rest →
    let gone := { m with status := MoveStatus.cancelled }
    let data := s.dock.descriptorRecord (s.dock.rings[r]).head gone
    (m.status ≠ .picked →
      exec (.cancelHead l tag (idx r)) s =
        .next ((s.on (s.dock.advance r gone)).answered l tag (.cancelHead (idx r)) (okReply data))) ∧
    (m.status = .picked →
      let k := s.dock.cancelPicked r m none
      exec (.cancelHead l tag (idx r)) s =
        .next ((s.on k).answered l tag (.cancelHead (idx r)) (okReply data)) ∧
      (k.rings[r]).waiting = rest ∧ (k.rings[r]).head = (s.dock.rings[r]).positionOf 1 ∧
      (k.rings[r]).lastFinished = some { position := (s.dock.rings[r]).head, move := gone } ∧
      (∀ (slot : Nat) (p : Pallet), s.dock.findTag m.tag = some (slot, p) →
        ∃ q, k.palletAt slot = some q ∧ q.loc = .adrift))

/-- R65, R49, R68, R69, R118: an accepted pick at a terminal bound to `loc`: the ring, the pallet, the
lane and trailer counts, the through-door counts, the move in flight that the Defrost Controller counts,
the room quantum, and the verdict. -/
def Obligations.PickAccepted : Prop :=
  ∀ (k : Dock) (t : Fin 24) (loc : Spot) (tag : Word) (r : Fin 20) (m : Descriptor)
      (rest : List Descriptor) (slot : Nat) (p : Pallet),
    k.plantStop = false → k.candidate loc tag = some r → (k.rings[r]).waiting = m :: rest →
    k.pickVerdict r m = none → k.findTag tag = some (slot, p) →
    let k' := k.pickScan t loc tag
    k'.rings[r] = { k.rings[r] with
      waiting := { m with status := .picked, pickTime := some k.running } :: rest } ∧
    (∀ q : Fin 20, q ≠ r → k'.rings[q] = k.rings[q]) ∧
    (∃ p', k'.palletAt slot = some p' ∧ p'.loc = .transit r (k.rings[r]).head) ∧
    (∀ n : Fin 24, k'.lanes[n] =
      { k.lanes[n] with
        occupied := (k.lanes[n]).occupied - (if m.source = .lane n then 1 else 0)
        reserved := (k.lanes[n]).reserved + (if m.dest = .lane n then 1 else 0) }) ∧
    (∀ d : Fin 16, (k'.doors[d]).through = (k.doors[d]).through + m.doors.count d ∧
      (k'.doors[d]).trailer = (k.doors[d]).trailer.map (fun t =>
        { t with direction := match t.direction with
            | .inbound => .inbound
            | .outbound capacity loaded reserved =>
              .outbound capacity loaded (reserved + (if m.dest = .trailer d then 1 else 0)) })) ∧
    k'.flights[r] = Dock.flightZones (k.spotZone m.source) (k.spotZone m.dest) ∧
    (∀ q : Fin 20, q ≠ r → k'.flights[q] = k.flights[q]) ∧
    (∀ z : Fin 8,
      (k'.defrosts[z]).moves = (k.defrosts[z]).moves +
        (if k.spotZone m.source = some z ∨ k.spotZone m.dest = some z then 1 else 0) ∧
      (k'.defrosts[z]).frost =
        if (k.zones[z]).kind = .frozenRoom ∧ k.spotZone m.source = some z ∧ k.spotZone m.dest ≠ some z then
          min 65535 ((k.defrosts[z]).frost + (k.defrosts[z]).config.quantum)
        else (k.defrosts[z]).frost) ∧
    (k.nodeFitted (Dock.terminalNode t) = true →
      (k'.nodes[Dock.terminalNode t]).verdict = some (.accept, tag) ∧
      (k'.nodes[Dock.terminalNode t]).verdictCount = (k.nodes[Dock.terminalNode t]).verdictCount + 1)

/-- R63, R64: a pick that is refused changes no pallet, lane, door, defrost or channel and no ring's
waiting entries; it is refused HELD while the plant-stop line is asserted. -/
def Obligations.RefusedPickKeepsDock : Prop :=
  ∀ (k : Dock) (t : Fin 24) (loc : Spot) (tag : Word),
    (k.plantStop = true ∨ k.candidate loc tag = none ∨
      ∃ r m rest v, k.candidate loc tag = some r ∧ (k.rings[r]).waiting = m :: rest ∧
        k.pickVerdict r m = some v) →
    let k' := k.pickScan t loc tag
    k'.pallets = k.pallets ∧ k'.lanes = k.lanes ∧ k'.doors = k.doors ∧ k'.defrosts = k.defrosts ∧
    k'.channels = k.channels ∧ k'.zones = k.zones ∧ k'.flights = k.flights ∧
    (∀ r : Fin 20, (k'.rings[r]).waiting = (k.rings[r]).waiting ∧
      (k'.rings[r]).state = (k.rings[r]).state ∧ (k'.rings[r]).head = (k.rings[r]).head) ∧
    (k.plantStop = true → k.nodeFitted (Dock.terminalNode t) = true →
      (k'.nodes[Dock.terminalNode t]).verdict = some (.held, tag))

/-- R66, R67, R49, R52, R68, R69, R118: an accepted place at a terminal bound to `loc`: the ring, the
pallet, the lane and trailer counts, the through-door counts, the counts of the move that the Defrost
Controller lowers, the room quantum, and the verdict. -/
def Obligations.PlaceAccepted : Prop :=
  ∀ (k : Dock) (t : Fin 24) (loc : Spot) (tag : Word) (r : Fin 20) (m : Descriptor)
      (rest : List Descriptor) (slot : Nat) (p : Pallet),
    k.placeRing loc tag = some r → (k.rings[r]).waiting = m :: rest →
    k.findTag tag = some (slot, p) →
    let k' := k.placeScan t loc tag
    (k'.rings[r]).waiting = rest ∧ (k'.rings[r]).head = (k.rings[r]).positionOf 1 ∧
    (k'.rings[r]).lastFinished =
      some { position := (k.rings[r]).head, move := { m with status := .placed } } ∧
    (rest = [] → (k'.rings[r]).state = .halted ∧ (k'.rings[r]).drained = true) ∧
    (rest ≠ [] → (k'.rings[r]).state = (k.rings[r]).state) ∧
    (∃ p', k'.palletAt slot = some p' ∧ p'.loc = .at loc) ∧
    (∀ n : Fin 24, k'.lanes[n] =
      if loc = .lane n then
        { k.lanes[n] with occupied := (k.lanes[n]).occupied + 1, reserved := (k.lanes[n]).reserved - 1 }
      else k.lanes[n]) ∧
    (∀ d : Fin 16, (k'.doors[d]).through = (k.doors[d]).through - m.doors.count d ∧
      (k'.doors[d]).trailer = (k.doors[d]).trailer.map (fun t =>
        { t with direction := match t.direction with
            | .inbound => .inbound
            | .outbound capacity loaded reserved =>
              if loc = .trailer d then .outbound capacity (loaded + 1) (reserved - 1)
              else .outbound capacity loaded reserved })) ∧
    k'.flights[r] = [] ∧ (∀ q : Fin 20, q ≠ r → k'.flights[q] = k.flights[q]) ∧
    (∀ z : Fin 8, (k'.defrosts[z]).moves = (k.defrosts[z]).moves - (k.flights[r]).count z) ∧
    ((∀ d ∈ m.doors, (k.doors[d]).state ≠ .closePending) → ∀ z : Fin 8,
      (k'.defrosts[z]).frost =
        if (k.zones[z]).kind = .frozenRoom ∧ k.spotZone m.dest = some z ∧ k.spotZone m.source ≠ some z then
          min 65535 ((k.defrosts[z]).frost + (k.defrosts[z]).config.quantum)
        else (k.defrosts[z]).frost) ∧
    (k.nodeFitted (Dock.terminalNode t) = true →
      (k'.nodes[Dock.terminalNode t]).verdict = some (.accept, tag))

/-! ### Doors -/

/-- R77, R85: SET_DOOR and ASSIGN_TRAILER. R29 gives the trailer's records no order; slot order is the
model's choice (notes/assumptions/4.md). -/
def Obligations.DoorSettings : Prop :=
  ∀ (s : State) (l : Link) (tag : Byte) (d : Fin 16),
    (∀ (a : SetDoor) (z : Fin 8), Ready s .site (.setDoor a) → a.door = idx d → a.dockZone = idx z →
      Dock.doorConfigOk a = true → s.dock.doorFitted d = true → s.dock.zoneFitted z = true →
      (s.dock.zones[z]).kind = .dock →
      ((s.dock.doors[d]).config.dockZone = some z →
        let k := s.dock.modDoor d ({ · with config := Dock.doorConfigOf a z })
        exec (.setDoor .site tag a) s =
          .next ((s.on k).answered .site tag (.setDoor a) (okReply (k.doorConfigBytes d)))) ∧
      ((s.dock.doors[d]).config.dockZone ≠ some z → (s.dock.doors[d]).state.notClosed = false →
        s.dock.spotWaiting (.trailer d) = false →
        let k := (s.dock.accrueTrailer d).modDoor d ({ · with config := Dock.doorConfigOf a z })
        exec (.setDoor .site tag a) s =
          .next ((s.on k).answered .site tag (.setDoor a) (okReply (k.doorConfigBytes d))))) ∧
    (∀ (a : AssignTrailer) (dir : Direction), Ready s l (.assignTrailer a) → a.door = idx d →
      Dock.directionOf a.direction a.capacity = some dir → s.dock.doorFitted d = true →
      (s.dock.doors[d]).state = .arrived →
      exec (.assignTrailer l tag a) s =
        .next ((s.on ((s.dock.modDoor d
          ({ · with trailer := some { id := a.trailerId, direction := dir } })).changeState d
          .assigned)).answered l tag (.assignTrailer a) (okReply [])))

/-- R87, R88, R89, R92, R93: DOCK, UNDOCK, OPEN_DOOR and CLOSE_DOOR in the states that take them, and the
rows of a sequencer close. That OPEN_DOOR is
judged by the hold pressure of a SET_DOOR before the next report too (R77) is the model's choice
(notes/assumptions/22.md). -/
def Obligations.DoorMotionRequests : Prop :=
  ∀ (s : State) (l : Link) (tag : Byte) (d : Fin 16), s.dock.doorFitted d = true →
    let dr := s.dock.doors[d]
    (Ready s l (.dock (idx d)) → (dr.state = .assigned ∨ dr.state = .released) →
      dr.config.dockZone ≠ none →
      exec (.dock l tag (idx d)) s =
        .next ((s.on (s.dock.changeState d .inflating)).answered l tag (.dock (idx d)) (okReply []))) ∧
    (Ready s l (.undock (idx d)) → dr.state = .sealed →
      exec (.undock l tag (idx d)) s =
        .next ((s.on (s.dock.changeState d .deflating)).answered l tag (.undock (idx d)) (okReply []))) ∧
    (Ready s l (.undock (idx d)) → dr.state = .assigned →
      exec (.undock l tag (idx d)) s =
        .next ((s.on (s.dock.changeState d .released)).answered l tag (.undock (idx d)) (okReply []))) ∧
    (Ready s l (.undock (idx d)) → dr.state = .released →
      exec (.undock l tag (idx d)) s = .next (s.answered l tag (.undock (idx d)) (okReply []))) ∧
    (Ready s l (.openDoor (idx d)) → s.dock.plantStop = false → dr.state = .sealed →
      dr.config.hold ≤ dr.pressure →
      (∀ z, dr.config.dockZone = some z → (s.dock.defrosts[z]).phase ≠ .holding →
        (s.dock.defrosts[z]).phase ≠ .defrosting → (s.dock.defrosts[z]).phase ≠ .dripping →
        exec (.openDoor l tag (idx d)) s =
          .next ((s.on (s.dock.changeState d .opening)).answered l tag (.openDoor (idx d)) (okReply [])))) ∧
    (Ready s l (.openDoor (idx d)) → s.dock.plantStop = true →
      exec (.openDoor l tag (idx d)) s =
        .next (s.answered l tag (.openDoor (idx d)) { status := .held })) ∧
    (Ready s l (.closeDoor (idx d)) → s.dock.plantStop = false → dr.state = .open → dr.through = 0 →
      exec (.closeDoor l tag (idx d)) s =
        .next ((s.on ((s.dock.modDoor d ({ · with closeRequested := true })).changeState d
          .closing)).answered l tag (.closeDoor (idx d)) (okReply []))) ∧
    (Ready s l (.closeDoor (idx d)) → s.dock.plantStop = false → dr.state = .open → dr.through ≠ 0 →
      exec (.closeDoor l tag (idx d)) s =
        .next ((s.on ((s.dock.modDoor d ({ · with closeRequested := true })).changeState d
          .closePending)).answered l tag (.closeDoor (idx d)) { status := .pending })) ∧
    (Ready s l (.closeDoor (idx d)) → s.dock.plantStop = false → dr.state = .opening → dr.retry = 0 →
      exec (.closeDoor l tag (idx d)) s =
        .next ((s.on ((s.dock.modDoor d ({ · with closeRequested := true })).changeState d
          .closing)).answered l tag (.closeDoor (idx d)) (okReply []))) ∧
    (Ready s l (.closeDoor (idx d)) → s.dock.plantStop = false → dr.state = .opening →
      (dr.retry = 1 ∨ dr.retry = 2) →
      exec (.closeDoor l tag (idx d)) s =
        .next (s.answered l tag (.closeDoor (idx d)) { status := .pending })) ∧
    (Ready s l (.closeDoor (idx d)) → s.dock.plantStop = false → dr.state = .opening → dr.retry = 3 →
      exec (.closeDoor l tag (idx d)) s =
        .next ((s.on (s.dock.modDoor d ({ · with closeRequested := true }))).answered l tag
          (.closeDoor (idx d)) { status := .pending })) ∧
    (Ready s l (.closeDoor (idx d)) → s.dock.plantStop = false → dr.state = .closePending →
      exec (.closeDoor l tag (idx d)) s =
        .next (s.answered l tag (.closeDoor (idx d)) { status := .pending })) ∧
    (Ready s l (.closeDoor (idx d)) → s.dock.plantStop = false → dr.state = .closing →
      exec (.closeDoor l tag (idx d)) s = .next (s.answered l tag (.closeDoor (idx d)) (okReply []))) ∧
    (let k' := s.dock.takeClose d
     (dr.state = .open →
        k' = (s.dock.modDoor d ({ · with closeRequested := true })).changeState d
          (if dr.through = 0 then .closing else .closePending) ∧
        (k'.doors[d]).closeRequested = true ∧ (k'.doors[d]).timers.reclose = none) ∧
      (dr.state = .opening → dr.retry = 0 →
        k' = (s.dock.modDoor d ({ · with closeRequested := true })).changeState d .closing ∧
        (k'.doors[d]).closeRequested = true) ∧
      (dr.state = .opening → (dr.retry = 1 ∨ dr.retry = 2) → k' = s.dock) ∧
      (dr.state = .opening → dr.retry = 3 → k' = s.dock.modDoor d ({ · with closeRequested := true })) ∧
      (dr.state ≠ .open → dr.state ≠ .opening → k' = s.dock))

/-- R100, R103, R138: SERVICE_DOOR and RETURN_DOOR. That RETURN_DOOR returns the blower before the drive, and
both before the entry into RESYNC and the two clearings, is the model's choice (notes/assumptions/4.md). -/
def Obligations.ServiceAndReturnDoor : Prop :=
  ∀ (s : State) (l : Link) (tag : Byte) (d : Fin 16), s.dock.doorFitted d = true →
    let st := (s.dock.doors[d]).state
    (Ready s l (.serviceDoor (idx d)) →
      (st = .fault ∨ st = .vacant ∨ st = .arrived ∨ st = .assigned) →
      exec (.serviceDoor l tag (idx d)) s =
        .next ((s.on (s.dock.changeState d .outOfService)).answered l tag (.serviceDoor (idx d))
          (okReply []))) ∧
    (Ready s l (.returnDoor (idx d)) → st = .outOfService →
      let k1 := (s.dock.returnChannel (blowerOf d)).returnChannel (driveOf d)
      exec (.returnDoor l tag (idx d)) s =
        .next ((s.on (((k1.changeState d .resync).clearCondition .trailerLeft (.door d)).clearCondition
          .doorTravel (.door d))).answered l tag (.returnDoor (idx d)) (okReply [])) ∧
      (k1.channels[blowerOf d]).owner = .sequencer ∧ (k1.channels[driveOf d]).owner = .sequencer ∧
      (k1.channels[blowerOf d]).armed = false ∧ (k1.channels[driveOf d]).armed = false)

/-- R80, R81, R97, R136: a door enters a state: the state, the levels commanded to channels that the
sequencer owns, the travel timer, and no other door. -/
def Obligations.DoorStateEntry : Prop :=
  ∀ (k : Dock) (d : Fin 16) (st : DoorState),
    let k' := k.changeState d st
    (k'.doors[d]).state = st ∧
    (∀ lv, (k.channels[driveOf d]).owner = .sequencer → st.drive = some lv →
      (k'.channels[driveOf d]).latch = lv ∧ (k'.channels[driveOf d]).armed = true) ∧
    (∀ lv, (k.channels[blowerOf d]).owner = .sequencer →
      st.blower (k.channels[blowerOf d]).latch = some lv →
      (k'.channels[blowerOf d]).latch = lv ∧ (k'.channels[blowerOf d]).armed = true) ∧
    (k'.doors[d]).timers.travel =
      (if (st = .opening ∨ st = .closing) ∧ k.plantStop = false then some k.running else none) ∧
    (k'.doors[d]).through = (k.doors[d]).through ∧ (k'.doors[d]).trailer = (k.doors[d]).trailer ∧
    (∀ j : Fin 16, j ≠ d → k'.doors[j] = k.doors[j])

/-- R83, R84, R86, R87, R88, R90, R95, R96, R101, R104: where a door node report takes a door, VACANT and
RESYNC among its states. Where a rule raises an alarm and changes the state, the order is the one in which
it lists them, the levels at the state's entry: the model's choice (notes/assumptions/4.md). That the report
from which a door in RESYNC derives its state leaves SEAL_LOST uncleared is the model's choice
(notes/assumptions/24.md). -/
def Obligations.DoorReportsMove : Prop :=
  ∀ (k : Dock) (d : Fin 16) (rep : DoorReport),
    let dr := k.doors[d]
    let k1 := k.recordReport d rep
    let k' := k.doorReport d rep
    let st' := (k'.doors[d]).state
    k1 = k.modDoor d (fun dr =>
      { dr with presence := rep.presence, pressure := rep.pressure, position := rep.position }) ∧
    ((dr.state = .fault ∨ dr.state = .outOfService) → k' = k1) ∧
    (rep.presence = false →
      (dr.state = .arrived → k' = k1.changeState d .vacant) ∧
      ((dr.state = .assigned ∨ dr.state = .released) →
        k' = (k1.removeTrailer d).changeState d .vacant) ∧
      ((dr.state = .inflating ∨ dr.state = .sealed ∨ dr.state = .deflating ∨
          dr.state.notClosed = true) → k' = k1.trailerLeft d ∧ st' = .fault)) ∧
    (rep.presence = true → rep.position ≠ .closed →
      (dr.state = .arrived ∨ dr.state = .assigned ∨ dr.state = .inflating ∨ dr.state = .sealed ∨
        dr.state = .deflating ∨ dr.state = .released) →
      k' = (k1.raise .doorForced (.door d)).changeState d .fault) ∧
    (rep.position ≠ .closed → dr.state = .vacant →
      (rep.presence = false → k' = (k1.raise .doorForced (.door d)).changeState d .fault) ∧
      (rep.presence = true →
        k' = ((k1.changeState d .arrived).raise .doorForced (.door d)).changeState d .fault)) ∧
    (rep.presence = false → rep.position = .closed → dr.state = .vacant → st' = .vacant) ∧
    (dr.state = .resync →
      let k2 := k1.modDoor d (fun dr =>
        { dr with sealLost := false, retry := 0, timers := { dr.timers with leakGrace := none } })
      let k3 := if rep.position = .closed then k2.clearCondition .doorForced (.door d) else k2
      (k'.doors[d]).sealLost = false ∧ (k'.doors[d]).retry = 0 ∧ (k'.doors[d]).timers.leakGrace = none ∧
      (rep.presence = false → st' = .vacant ∧ (k'.doors[d]).trailer = none ∧
        (dr.trailer = none → k' = k3.changeState d .vacant)) ∧
      (rep.presence = true → dr.trailer = none → st' = .arrived ∧ k' = k3.changeState d .arrived) ∧
      (rep.presence = true → dr.trailer ≠ none →
        (k'.doors[d]).trailer = dr.trailer ∧
        (rep.position ≠ .closed →
          st' = .fault ∧ k' = (k3.raise .doorForced (.door d)).changeState d .fault) ∧
        (rep.position = .closed → dr.config.hold ≤ rep.pressure →
          st' = .sealed ∧ k' = k3.changeState d .sealed) ∧
        (rep.position = .closed → rep.pressure < dr.config.hold →
          st' = .assigned ∧ k' = k3.changeState d .assigned))) ∧
    (rep.presence = true → rep.position = .closed →
      (dr.state = .vacant → st' = .arrived) ∧
      (dr.state = .inflating → st' = if dr.config.hold ≤ rep.pressure then .sealed else .inflating) ∧
      (dr.state = .deflating → st' = if rep.pressure ≤ dr.config.release then .released else .deflating) ∧
      (dr.state = .closing → rep.obstruction = false →
        st' = if dr.config.hold ≤ rep.pressure then .sealed else .inflating)) ∧
    (rep.presence = true → rep.position = .open → dr.state = .opening → st' = .open) ∧
    (rep.presence = true → rep.position ≠ .open → rep.obstruction = true → dr.state = .closing →
      st' = .opening ∧ (k'.doors[d]).retry = min 3 (dr.retry + 1))

/-- R87, R88, R90, R94, R97, R98: the expiries of a door's six timers. Where a rule raises an alarm and
changes the state, the order is the one in which it lists them, the levels at the state's entry: the model's
choice (notes/assumptions/4.md). -/
def Obligations.DoorTimersExpire : Prop :=
  ∀ (s : State) (d : Fin 16) (start : Nat), s.inReset = false →
    let k := s.dock
    let dr := k.doors[d]
    (dr.timers.inflate = some start → start + dr.config.inflateTimeout ≤ k.running →
      exec (.inflateTimerExpiry d) s =
        .next (s.on ((k.changeState d .assigned).raise .sealFailed (.door d))).settle) ∧
    (dr.timers.deflate = some start → start + 20 ≤ k.running →
      exec (.deflateTimerExpiry d) s = .next (s.on (k.changeState d .released)).settle) ∧
    (dr.timers.travel = some start → start + dr.config.travelTimeout ≤ k.running →
      exec (.travelTimerExpiry d) s =
        .next (s.on ((k.raise .doorTravel (.door d)).changeState d .fault)).settle) ∧
    (dr.timers.reclose = some start → start + 5 ≤ k.running →
      exec (.recloseTimerExpiry d) s =
        .next (s.on ((k.modTimers d ({ · with reclose := none })).takeClose d)).settle) ∧
    (dr.timers.closeWait = some start → start + dr.config.closeWait ≤ k.running →
      exec (.closeWaitExpiry d) s =
        .next (s.on (((k.cancelThrough d).raise .closeForced (.door d)).closeOrFault d)).settle) ∧
    (dr.timers.leakGrace = some start → start + dr.config.leakGrace ≤ k.running → dr.state ≠ .sealed →
      exec (.leakGraceExpiry d) s =
        .next (s.on ((((k.modTimers d ({ · with leakGrace := none })).modDoor d
          ({ · with sealLost := true })).raise .sealLost (.door d)).takeClose d)).settle) ∧
    (dr.timers.leakGrace = some start → start + dr.config.leakGrace ≤ k.running → dr.state = .sealed →
      exec (.leakGraceExpiry d) s =
        .next (s.on ((((k.modTimers d ({ · with leakGrace := none })).modDoor d
          ({ · with sealLost := true })).raise .sealLost (.door d)).changeState d .inflating)).settle)

/-- R71, R78, R37: when a trailer part is removed no record stays in the trailer, no PENDING descriptor
names it, and the trailer part is gone; every record that stood elsewhere stays where it stood. -/
def Obligations.TrailerRemovalEmpties : Prop :=
  ∀ (k : Dock) (d : Fin 16),
    let k' := k.removeTrailer d
    (k'.doors[d]).trailer = none ∧
    (∀ e ∈ k'.pallets, e.2.loc ≠ .at (.trailer d)) ∧
    (∀ (r : Fin 20), ∀ m ∈ (k'.rings[r]).waiting,
      ¬ (m.status = .pending ∧ (m.source = .trailer d ∨ m.dest = .trailer d))) ∧
    (∀ (slot : Nat) (p : Pallet), k.palletAt slot = some p →
      (p.loc = .at (.trailer d) → ∃ q, k'.palletAt slot = some q ∧ q.loc = .departed)) ∧
    (PalletsOk k → ∀ (slot : Nat) (p : Pallet), k.palletAt slot = some p →
      p.loc ≠ .at (.trailer d) → k'.palletAt slot = some p)

/-! ### Defrost and outputs -/

/-- R111, R117, R115, R129, R130: the defrost requests. That SET_DEFROST aims the interval timer again
only when it changes the maximum interval, and answers with the record after the due test, is the model's
choice (notes/assumptions/13.md); that the heater is returned before the fans is too
(notes/assumptions/4.md). -/
def Obligations.DefrostRequests : Prop :=
  ∀ (s : State) (l : Link) (tag : Byte) (z : Fin 8), s.dock.zoneFitted z = true →
    let k := s.dock
    let df := k.defrosts[z]
    (∀ a : SetDefrost, Ready s .site (.setDefrost a) → a.zone = idx z → defrostFieldsOk a = true →
      let k1 := (k.modDefrost z (fun df =>
        { df with
          config := defrostConfigOf a
          interval := df.interval || decide (df.config.maxInterval ≠ a.maxInterval.toNat) })).dueTest z
      exec (.setDefrost .site tag a) s =
        .next ((s.on k1).answered .site tag (.setDefrost a) (okReply (k1.defrostRecord z)))) ∧
    (∀ n : Byte, Ready s .site (.setSlots n) → 1 ≤ n.toNat → n.toNat ≤ 4 →
      (∀ y : Fin 8, (k.defrosts[y]).slot = false) →
      exec (.setSlots .site tag n) s =
        .next ((s.on (({ k with slotLimit := n.toNat } : Dock).arbiter)).answered .site tag (.setSlots n)
          (okReply [n]))) ∧
    (Ready s l (.requestDefrost (idx z)) → df.phase = .cooling →
      exec (.requestDefrost l tag (idx z)) s =
        .next ((s.on ((k.enterPhase z .due).arbiter)).answered l tag (.requestDefrost (idx z))
          (okReply []))) ∧
    (Ready s l (.requestDefrost (idx z)) → df.phase = .due →
      exec (.requestDefrost l tag (idx z)) s =
        .next (s.answered l tag (.requestDefrost (idx z)) (okReply []))) ∧
    (Ready s l (.requestDefrost (idx z)) → df.phase ≠ .cooling → df.phase ≠ .due →
      exec (.requestDefrost l tag (idx z)) s =
        .next (s.answered l tag (.requestDefrost (idx z)) { status := .badState })) ∧
    (Ready s l (.inhibitDefrost (idx z)) → (df.phase = .cooling ∨ df.phase = .due) →
      exec (.inhibitDefrost l tag (idx z)) s =
        .next ((s.on (k.enterPhase z .inhibited)).answered l tag (.inhibitDefrost (idx z))
          (okReply []))) ∧
    (Ready s l (.restoreDefrost (idx z)) → df.phase = .inhibited →
      let k1 := (((k.returnManual (heaterOf z)).returnManual (fansOf z)).enterPhase z .cooling).dueTest z
      exec (.restoreDefrost l tag (idx z)) s =
        .next ((s.on k1).answered l tag (.restoreDefrost (idx z))
          (okReply [((k1.defrosts[z]).phase).code])))

/-- R114, R121, R124, R125, R127: the expiries of a zone's five defrost timers. R121 gives the doors of a
DOCK zone no order; closing them in ascending number is the model's choice (notes/assumptions/4.md). -/
def Obligations.DefrostTimersExpire : Prop :=
  ∀ (s : State) (z : Fin 8) (start : Nat), s.inReset = false →
    let k := s.dock
    let df := k.defrosts[z]
    (df.interval = true → df.lastEnd + df.config.maxInterval ≤ k.running →
      exec (.intervalTimerExpiry z) s =
        .next (s.on ((k.modDefrost z ({ · with interval := false })).dueTest z)).settle) ∧
    (df.deferral = some start → start + df.config.maxDeferral ≤ k.running →
      (k.zones[z]).kind = .frozenRoom →
      exec (.deferralTimerExpiry z) s =
        .next (s.on ((k.modDefrost z ({ · with deferral := none, forcing := true })).raise
          .defrostForced (.zone z))).settle) ∧
    (df.deferral = some start → start + df.config.maxDeferral ≤ k.running → (k.zones[z]).kind = .dock →
      exec (.deferralTimerExpiry z) s =
        .next (s.on (((List.finRange 16).filter
          (fun d => decide ((k.doors[d]).config.dockZone = some z))).foldl (fun k d => k.takeClose d)
          ((k.modDefrost z ({ · with deferral := none, forcing := true })).raise
            .defrostForced (.zone z)))).settle) ∧
    (df.duration = some start → start + df.config.maxDuration ≤ k.running →
      exec (.durationTimerExpiry z) s =
        .next (s.on ((k.raise .defrostOverrun (.zone z)).enterDripping z)).settle) ∧
    (df.drip = some start → start + df.config.dripTime ≤ k.running →
      exec (.dripTimerExpiry z) s = .next (s.on (k.enterRecovery z)).settle) ∧
    (df.recovery = some start → start + df.config.recoveryTimeout ≤ k.running →
      exec (.recoveryTimerExpiry z) s =
        .next (s.on ((k.raise .recoveryLate (.zone z)).endDefrost z)).settle)

/-- R116, R120: the winner is a DUE zone with the largest frost load, the lowest of equals; with the line
released and a slot free the arbiter takes it into HOLDING with its slot held, its deferral timer running,
and, where it is clear, on into DEFROSTING; it goes on until no slot is free or no zone is DUE, and never
takes the zones that hold a slot past the slot limit. -/
def Obligations.ArbiterGrantsWithinLimit : Prop :=
  (∀ (k : Dock) (z : Fin 8), k.winner = some z →
    (k.defrosts[z]).phase = .due ∧
    ∀ y : Fin 8, (k.defrosts[y]).phase = .due → (k.defrosts[y]).frost ≤ (k.defrosts[z]).frost ∧
      ((k.defrosts[y]).frost = (k.defrosts[z]).frost → z ≤ y)) ∧
  (∀ k : Dock, k.winner = none → ∀ y : Fin 8, (k.defrosts[y]).phase ≠ .due) ∧
  (∀ k : Dock, k.slotsHeld ≤ k.slotLimit → k.arbiter.slotsHeld ≤ k.slotLimit) ∧
  (∀ k : Dock, k.plantStop = true → k.arbiter = k) ∧
  (∀ (k : Dock) (z : Fin 8), k.plantStop = false → k.slotsHeld < k.slotLimit → k.winner = some z →
    let df := k.arbiter.defrosts[z]
    df.slot = true ∧ df.gate = .closed ∧
    (k.zoneClear z = false → df.phase = .holding ∧ df.deferral = some k.running) ∧
    (k.zoneClear z = true →
      df.phase = .defrosting ∧ df.deferral = none ∧ df.duration = some k.running)) ∧
  (∀ k : Dock, k.plantStop = false → k.arbiter.slotLimit ≤ k.arbiter.slotsHeld ∨ k.arbiter.winner = none)

/-- R135, R137, R139, R140, R141, R142: SET_CHANNEL takes a channel over; the mismatch timer's expiry; and
the table of the feedback check, at a feedback write, where a SUSPENDED check resumes as AGREE first, and
at a change of the effective level. -/
def Obligations.ChannelCommandsComplete : Prop :=
  ∀ (s : State) (c : Fin 48),
    (∀ (l : Link) (tag : Byte) (a : SetChannel) (lv : Level), Ready s l (.setChannel a) →
      a.channel = idx c → Dock.readLevel c a.level = some lv → s.dock.channelFitted c = true →
      s.dock.manualAllowed c = true →
      let k := s.dock.setByHand c lv
      exec (.setChannel l tag a) s =
        .next ((s.on k).answered l tag (.setChannel a) (okReply (k.channelRecord c))) ∧
      (k.channels[c]).owner = .manual ∧ (k.channels[c]).latch = lv ∧ (k.channels[c]).armed = true ∧
      (k.channels[c]).effective = effectiveLevel (channelKind c) lv true s.dock.plantStop ∧
      (∀ j : Fin 48, j ≠ c → k.channels[j] = s.dock.channels[j])) ∧
    (∀ start : Nat, s.inReset = false → (s.dock.channels[c]).check = .timing start →
      start + (channelKind c).grace ≤ s.dock.running →
      let ch := s.dock.channels[c]
      let kind : RaisedKind :=
        if channelKind c = .heater ∧ ch.feedback = some .on ∧ ch.effective = .off then .heaterStuck
        else .mismatch
      exec (.mismatchTimerExpiry c) s =
        .next (s.on ((s.dock.modChannel c ({ · with check := .raised kind })).raise kind.alarm
          (.channel c))).settle) ∧
    (∀ (k : Dock) (fb : Option Level),
      let ch := k.channels[c]
      let check : Check := if ch.check = .suspended then .agree else ch.check
      let k1 := k.modChannel c ({ · with feedback := fb, check := check })
      let k' := k.writeFeedback c fb
      (fb = none → k' = k1) ∧
      (fb = some ch.effective →
        (∀ kind, check = .raised kind →
          k' = (k1.modChannel c ({ · with check := .agree })).clearCondition kind.alarm (.channel c)) ∧
        ((∀ kind, check ≠ .raised kind) → k' = k1.modChannel c ({ · with check := .agree }))) ∧
      (∀ lv, fb = some lv → lv ≠ ch.effective →
        (check = .agree → k' = k1.modChannel c ({ · with check := .timing k.running })) ∧
        (∀ start, check = .timing start → k' = k1) ∧
        (∀ kind, check = .raised kind →
          (disagreement (channelKind c) fb ch.effective = kind → k' = k1) ∧
          (disagreement (channelKind c) fb ch.effective ≠ kind →
            k' = (k1.clearCondition kind.alarm (.channel c)).modChannel c
              ({ · with check := .timing k.running }))))) ∧
    (∀ k : Dock,
      let ch := k.channels[c]
      let eff := effectiveLevel (channelKind c) ch.latch ch.armed k.plantStop
      let k1 := k.modChannel c ({ · with effective := eff })
      let k' := k.recompute c
      (eff = ch.effective → k' = k) ∧
      (eff ≠ ch.effective →
        (ch.feedback = none ∨ ch.check = .suspended → k' = k1) ∧
        (ch.feedback = some eff →
          (∀ kind, ch.check = .raised kind →
            k' = (k1.modChannel c ({ · with check := .agree })).clearCondition kind.alarm (.channel c)) ∧
          (ch.check = .agree ∨ (∃ start, ch.check = .timing start) →
            k' = k1.modChannel c ({ · with check := .agree }))) ∧
        (∀ lv, ch.feedback = some lv → lv ≠ eff →
          (ch.check = .agree ∨ (∃ start, ch.check = .timing start) →
            k' = k1.modChannel c ({ · with check := .timing k.running })) ∧
          (∀ kind, ch.check = .raised kind →
            (disagreement (channelKind c) ch.feedback eff = kind → k' = k1) ∧
            (disagreement (channelKind c) ch.feedback eff ≠ kind →
              k' = (k1.clearCondition kind.alarm (.channel c)).modChannel c
                ({ · with check := .timing k.running }))))))

/-- R143, R144, R133: the assertion and the release of the plant-stop line; at the assertion every
channel of a forced kind stands at its safe value. R143 gives the blocks no order; that Output Channels
and the Alarm List come first, then the Door Sequencer, then the Defrost Controller, is the model's choice
(notes/assumptions/4.md). -/
def Obligations.PlantStopForcesSafe : Prop :=
  ∀ s : State, s.inReset = false →
    (s.dock.plantStop = false →
      exec .plantStopAssertion s =
        .next ((({ s with plantLine := true } : State).on
          ((((s.dock.setPlantStop true).raise .plantStop .site).doorsPlantStop).defrostPlantStop)).settle) ∧
      s.dock.assertStop.plantStop = true ∧
      (∀ c : Fin 48, (channelKind c).forced = true →
        (s.dock.assertStop.channels[c]).effective = (channelKind c).safe) ∧
      (∀ d : Fin 16, (s.dock.assertStop.doors[d]).timers.travel = none)) ∧
    (s.dock.plantStop = true →
      exec .plantStopRelease s =
        .next ((({ s with plantLine := false } : State).on
          ((((s.dock.setPlantStop false).clearCondition .plantStop .site).doorsPlantRelease
            ).defrostPlantRelease)).settle) ∧
      s.dock.releaseStop.plantStop = false)

/-! ### Alarms, holds, notes -/

/-- R153, R155, R156, R158: ACK_ALARM, ACK_ALL and SET_MASK. `reserved` is the state in which ACK_ALL's
walk finds the reserved entry, after the removals of ordinary entries. That its count of removed entries
leaves out a reserved entry whose condition such a removal clears away is the model's choice
(notes/assumptions/13.md), and so is that a reserved entry which the walk first clears and then removes sends
two notices (notes/assumptions/23.md). That SET_MASK's reply carries the mask table in the three bytes of
READ_ALARMS is the model's choice (notes/assumptions/2.md). -/
def Obligations.AlarmRequests : Prop :=
  ∀ (s : State) (l : Link) (tag : Byte),
    (∀ (a : AckAlarm) (kind : AlarmKind) (subj : Subject) (e : AlarmEntry) (pos : Nat),
      Ready s l (.ackAlarm a) → Dock.readAlarm a = some (kind, subj) → kind ≠ .listOverflow →
      s.dock.alarms.zipIdx.find? (fun e => e.1.matches kind subj) = some (e, pos) →
      exec (.ackAlarm l tag a) s =
        .next ((s.on (s.dock.ackEntry l e)).answered l tag (.ackAlarm a)
          (okReply (Dock.alarmRecord pos e (Dock.ackState e.state)))) ∧
      (e.state = .activeUnack → (s.dock.ackEntry l e).alarms =
        s.dock.alarms.map (fun x => if x.matches e.kind e.subject then { e with state := .activeAck } else x)) ∧
      (e.state = .activeAck → s.dock.ackEntry l e = s.dock) ∧
      (e.state = .clearedUnack → (s.dock.ackEntry l e).alarms =
        s.dock.alarms.filter (fun x => !x.matches e.kind e.subject))) ∧
    (∀ (a : AckAlarm) (e : AlarmEntry), Ready s l (.ackAlarm a) →
      Dock.readAlarm a = some (.listOverflow, .site) → s.dock.overflow = some e →
      exec (.ackAlarm l tag a) s =
        .next ((s.on (s.dock.ackOverflow l)).answered l tag (.ackAlarm a)
          (okReply (Dock.alarmRecord 47 e (Dock.ackState e.state))))) ∧
    (Ready s l .ackAll →
      let count := fun (st : AlarmState) => (s.dock.alarms.filter (fun e => decide (e.state = st))).length
      let reserved : Option AlarmState := match s.dock.overflow with
        | none => none
        | some e =>
          if count .clearedUnack = 0 then some e.state
          else if e.state = .activeAck then none else some .clearedUnack
      let k := s.dock.ackEvery l
      exec (.ackAll l tag) s =
        .next ((s.on k).answered l tag .ackAll (okReply
          [byteOf (count .activeUnack + (if reserved = some .activeUnack then 1 else 0)),
           byteOf (count .clearedUnack + (if reserved = some .clearedUnack then 1 else 0)),
           byteOf k.alarms.length])) ∧
      (AlarmsOk s.dock →
        k.alarms = (s.dock.alarms.filter (fun e => decide (e.state ≠ .clearedUnack))).map
          ({ · with state := .activeAck }) ∧
        k.overflow.isSome = decide (reserved = some .activeUnack ∨ reserved = some .activeAck))) ∧
    (∀ (kind setting : Byte) (a : AlarmKind) (st : MaskSetting), Ready s .site (.setMask kind setting) →
      readAlarmKind kind = some a → readMaskSetting setting = some st → a.maskable = true →
      let k := ({ s.dock with mask := tmod s.dock.mask a.index (fun _ => st) } : Dock).evalLine
      exec (.setMask .site tag kind setting) s =
        .next ((s.on k).answered .site tag (.setMask kind setting) (okReply k.maskBytes)))

/-- R150, R151, R152: where a raised alarm goes. -/
def Obligations.RaisedAlarmStands : Prop :=
  ∀ (k : Dock) (a : AlarmKind) (subj : Subject),
    let now := k.siteTime
    let st := if a.oneShot then AlarmState.clearedUnack else AlarmState.activeUnack
    let k' := k.raise a subj
    (∀ e, k.alarms.find? (·.matches a subj) = some e →
      k'.overflow = k.overflow ∧
      k'.alarms = k.alarms.map (fun x => if x.matches a subj then
        { e with repeats := min 255 (e.repeats + 1), last := now, state := st } else x)) ∧
    (k.alarms.find? (·.matches a subj) = none → k.alarms.length < 47 →
      k'.overflow = k.overflow ∧
      k'.alarms = k.alarms ++ [{ kind := a, subject := subj, first := now, last := now, repeats := 1,
                                 state := st }]) ∧
    (k.alarms.find? (·.matches a subj) = none → 47 ≤ k.alarms.length →
      k'.alarms = k.alarms ∧
      (k.overflow = none → k'.overflow = some
        { kind := .listOverflow, subject := .site, first := now, last := now, repeats := 1,
          state := .activeUnack }) ∧
      (∀ e, k.overflow = some e → k'.overflow = some
        { e with repeats := min 255 (e.repeats + 1), last := now, state := .activeUnack })) ∧
    k'.alarmLine = lineLevel k'.mask k'.alarms k'.overflow

/-- R164, R165, R166: the door checks and the rows of TAKE_HOLD, of the forced take and of DROP_HOLD. The three
bytes of a hold reply (door, holder, pending) are the model's layout (notes/assumptions/2.md). -/
def Obligations.HoldRequests : Prop :=
  (∀ (s : State) (l : Link) (tag b : Byte) (st : Status),
    (16 ≤ b.toNat ∧ st = .badArg ∨ ∃ d : Fin 16, b = idx d ∧ s.dock.doorFitted d = false ∧ st = .noSuch) →
    (Ready s l (.takeHold b 0) →
      exec (.takeHold l tag b 0) s = .next (s.answered l tag (.takeHold b 0) { status := st })) ∧
    (Ready s .site (.takeHold b 1) →
      exec (.takeHoldForce .site tag b) s =
        .next (s.answered .site tag (.takeHold b 1) { status := st })) ∧
    (Ready s l (.dropHold b) →
      exec (.dropHold l tag b) s = .next (s.answered l tag (.dropHold b) { status := st }))) ∧
  (∀ (s : State) (tag b : Byte), s.inReset = false → s.floor.places.length < 2 →
    s.dock.commissioning.done = true →
    exec (.takeHoldForce .floor tag b) s =
      .next (s.answered .floor tag (.takeHold b 1) { status := .notPermitted })) ∧
  ∀ (s : State) (l : Link) (tag : Byte) (d : Fin 16), s.dock.doorFitted d = true →
    let h := s.holds[d]
    let now := s.dock.siteTime
    let taken := fun (t : State) (h : Hold) (st : Status) => (Host.Outcome.next (t.answered l tag
      (.takeHold (idx d) 0) { status := st, data := [idx d, linkCode h.holder, linkCode h.pending] }) : Result)
    (Ready s l (.takeHold (idx d) 0) → h.holder = none →
      exec (.takeHold l tag (idx d) 0) s =
        taken (s.modHold d (fun _ => ⟨some l, none⟩)) ⟨some l, none⟩ .ok) ∧
    (Ready s l (.takeHold (idx d) 0) → h.holder = some l → exec (.takeHold l tag (idx d) 0) s = taken s h .ok) ∧
    (Ready s l (.takeHold (idx d) 0) → h.holder = some (otherLink l) →
      exec (.takeHold l tag (idx d) 0) s =
        taken (s.modHold d ({ · with pending := some l })) ⟨some (otherLink l), some l⟩ .pending) ∧
    (Ready s .site (.takeHold (idx d) 1) →
      let t := s.modHold d (fun _ => ⟨some .site, none⟩)
      let t' := if h.holder = some .floor then
          t.notifyLink .floor (.holdLost d (some .site) none .taken now)
        else if h.pending = some .floor then
          t.notifyLink .floor (.holdLost d (some .site) none .pendingDropped now)
        else t
      exec (.takeHoldForce .site tag (idx d)) s =
        .next (t'.answered .site tag (.takeHold (idx d) 1) (okReply [idx d, 1, 0]))) ∧
    (∀ w, Ready s l (.dropHold (idx d)) → h.holder = some l → h.pending = some w →
      exec (.dropHold l tag (idx d)) s =
        .next (((s.modHold d (fun _ => ⟨some w, none⟩)).notifyLink w
          (.holdGranted d (some w) none now)).answered l tag (.dropHold (idx d))
          (okReply [idx d, linkCode (some w), 0]))) ∧
    (Ready s l (.dropHold (idx d)) → h.holder = some l → h.pending = none →
      exec (.dropHold l tag (idx d)) s =
        .next ((s.modHold d (fun _ => ⟨none, none⟩)).answered l tag (.dropHold (idx d))
          (okReply [idx d, 0, 0]))) ∧
    (Ready s l (.dropHold (idx d)) → h.holder ≠ some l → h.pending = some l →
      exec (.dropHold l tag (idx d)) s =
        .next ((s.modHold d ({ · with pending := none })).answered l tag (.dropHold (idx d))
          (okReply [idx d, linkCode h.holder, 0]))) ∧
    (Ready s l (.dropHold (idx d)) → h.holder ≠ some l → h.pending ≠ some l →
      exec (.dropHold l tag (idx d)) s =
        .next (s.answered l tag (.dropHold (idx d)) { status := .notHolder }))

/-- R173, R174: PUT_NOTE and TAKE_NOTE with an empty and with a full slot; both notices go to a link
that subscribes to HOLD and to no other. -/
def Obligations.NoteRequests : Prop :=
  (∀ (k : Dock) (l : Link) (n : Notice), (∃ len time, n = .noteWaiting len time ∨ n = .noteTaken len time) →
    ((k.noticeEnd l).subscribed .hold = true →
      (k.notifyLink l n).noticeEnd l = (k.noticeEnd l).create n) ∧
    ((k.noticeEnd l).subscribed .hold = false → k.notifyLink l n = k)) ∧
  ∀ (s : State) (l : Link) (tag : Byte) (text : List Byte),
    let now := s.dock.siteTime
    s.noteTo .floor = s.noteToFloor ∧ s.noteTo .site = s.noteToSite ∧
    (Ready s l (.putNote text) → (text.length = 0 ∨ 64 < text.length) →
      exec (.putNote l tag text) s = .next (s.answered l tag (.putNote text) { status := .badArg })) ∧
    (Ready s l (.putNote text) → 1 ≤ text.length → text.length ≤ 64 → s.noteTo (otherLink l) = none →
      exec (.putNote l tag text) s =
        .next (((s.setNoteTo (otherLink l) (some text)).notifyLink (otherLink l)
          (.noteWaiting text.length now)).answered l tag (.putNote text) (okReply []))) ∧
    (Ready s l (.putNote text) → 1 ≤ text.length → text.length ≤ 64 → s.noteTo (otherLink l) ≠ none →
      exec (.putNote l tag text) s =
        .next (s.answered l tag (.putNote text) { status := .full })) ∧
    (Ready s l .takeNote → s.noteTo l = some text →
      exec (.takeNote l tag) s =
        .next (((s.setNoteTo l none).notifyLink (otherLink l) (.noteTaken text.length now)).answered l tag
          .takeNote (okReply (byteOf text.length :: text)))) ∧
    (Ready s l .takeNote → s.noteTo l = none →
      exec (.takeNote l tag) s = .next (s.answered l tag .takeNote (okReply [0])))

/-! ### Field loop and clock -/

/-- R179: the rows of SET_TERMINAL. The layout of the node record is the model's choice
(notes/assumptions/2.md). -/
def Obligations.SetTerminalBinds : Prop :=
  ∀ (s : State) (tag : Byte) (a : SetTerminal) (t : Fin 24), Ready s .site (.setTerminal a) →
    a.terminal = idx t →
    let n := Dock.terminalNode t
    let done := fun (k : Dock) => (Host.Outcome.next
      ((s.on k).answered .site tag (.setTerminal a) (okReply (k.terminalRecord t))) : Result)
    (∀ spot, readBinding a.binding = some (some spot) → s.dock.spotFitted spot = true →
      s.dock.dockRoom spot = false → (s.dock.nodes[n]).status = .notFitted →
      exec (.setTerminal .site tag a) s =
        done (s.dock.modNode n
          ({ · with binding := some spot, status := .online, misses := 0, verdict := none }))) ∧
    (∀ spot, readBinding a.binding = some (some spot) → s.dock.spotFitted spot = true →
      s.dock.dockRoom spot = false → (s.dock.nodes[n]).status ≠ .notFitted →
      exec (.setTerminal .site tag a) s =
        done (s.dock.modNode n ({ · with binding := some spot, verdict := none }))) ∧
    (readBinding a.binding = some none → (s.dock.nodes[n]).status ≠ .notFitted →
      exec (.setTerminal .site tag a) s =
        done ((s.dock.modNode n
          ({ · with binding := none, status := .notFitted, misses := 0, verdict := none })).clearCondition
          .nodeLost (.node n))) ∧
    (readBinding a.binding = some none → (s.dock.nodes[n]).status = .notFitted →
      exec (.setTerminal .site tag a) s = done s.dock)

/-- R180, R181, R183, R185, R186, R102, R123, R142: POLL, NODE_REPLY and REPLY_WINDOW_EXPIRY, what a good
and a missing reply do to the node's record, and what the loss of a door node, a zone node and a terminal
does to the door, the coil reading and the two channels. The order in which a report's parts and a loss's
effects are taken is the model's choice (notes/assumptions/4.md), and so is that a report is judged by its own
bytes, whichever poll of its node it answers (notes/assumptions/25.md). -/
def Obligations.FieldLoopTransactions : Prop :=
  ∀ (s : State), s.inReset = false →
    (∀ n : Fin 48, s.transaction = none → s.dock.nextNode s.lastPolled = some n →
      exec .poll s =
        .next ({ s with lastPolled := some n,
                        transaction := some { node := n, poll := s.dock.pollFrame n } } : State).settle) ∧
    (∀ (t : Transaction) (bytes : List Byte) (rep : Report), s.transaction = some t →
      readReport t.node bytes = some rep →
      exec (.nodeReply bytes true) s =
        .next (({ s with transaction := none } : State).on (s.dock.goodReply t.node rep)).settle) ∧
    (∀ (t : Transaction) (bytes : List Byte) (inWindow : Bool), s.transaction = some t →
      (inWindow = false ∨ readReport t.node bytes = none) →
      exec (.nodeReply bytes inWindow) s =
        .next (({ s with transaction := none } : State).on (s.dock.missedReply t.node)).settle) ∧
    (∀ t : Transaction, s.transaction = some t →
      exec .replyWindowExpiry s =
        .next (({ s with transaction := none } : State).on (s.dock.missedReply t.node)).settle) ∧
    (∀ (k : Dock) (n : Fin 48), (k.nodes[n]).status = .online → (k.nodes[n]).misses < 2 →
      k.missedReply n = k.modNode n (fun nd => { nd with misses := nd.misses + 1 })) ∧
    (∀ (k : Dock) (n : Fin 48), (k.nodes[n]).status = .online → 2 ≤ (k.nodes[n]).misses →
      ((k.missedReply n).nodes[n]).status = .lost ∧ ((k.missedReply n).nodes[n]).misses = 3) ∧
    (∀ (k : Dock) (n : Fin 48), (k.nodes[n]).status = .lost → k.missedReply n = k) ∧
    (∀ (k : Dock) (n : Fin 48) (rep : Report), (k.nodes[n]).status ≠ .notFitted →
      ((k.goodReply n rep).nodes[n]).status = .online ∧ ((k.goodReply n rep).nodes[n]).misses = 0) ∧
    (∀ (k : Dock) (n : Fin 48), (k.nodes[n]).status = .online → 2 ≤ (k.nodes[n]).misses →
      let k' := k.missedReply n
      let suspended := fun (c : Fin 48) =>
        (k'.channels[c]).feedback = none ∧
        (∀ kind, (k.channels[c]).check = .raised kind → (k'.channels[c]).check = .raised kind) ∧
        ((∀ kind, (k.channels[c]).check ≠ .raised kind) → (k'.channels[c]).check = .suspended)
      (∀ d : Fin 16, n = Dock.doorNode d →
        let dr := k.doors[d]
        let dr' := k'.doors[d]
        suspended (blowerOf d) ∧ suspended (driveOf d) ∧ dr'.timers.leakGrace = none ∧
        (dr.state = .fault ∨ dr.state = .outOfService ∨ dr.state = .resync →
          dr' = { dr with timers := { dr.timers with leakGrace := none } }) ∧
        (dr.state = .closePending → dr.through ≠ 0 →
          dr' = { dr with timers := { dr.timers with leakGrace := none } }) ∧
        (dr.state = .open → dr.through ≠ 0 →
          dr'.state = .closePending ∧ dr'.closeRequested = true ∧ dr'.timers.closeWait = some k.running) ∧
        (dr.state = .open ∨ dr.state = .closePending → dr.through = 0 → dr'.state = .fault) ∧
        (dr.state = .vacant ∨ dr.state = .arrived ∨ dr.state = .assigned ∨ dr.state = .inflating ∨
            dr.state = .sealed ∨ dr.state = .opening ∨ dr.state = .closing ∨ dr.state = .deflating ∨
            dr.state = .released → dr'.state = .fault)) ∧
      (∀ z : Fin 8, n = Dock.zoneNode z →
        suspended (heaterOf z) ∧ suspended (fansOf z) ∧ (k'.defrosts[z]).coil = none ∧
        k'.zones = k.zones ∧ k'.doors = k.doors) ∧
      (∀ t : Fin 24, n = Dock.terminalNode t →
        k'.doors = k.doors ∧ k'.zones = k.zones ∧ k'.defrosts = k.defrosts ∧ k'.channels = k.channels ∧
        (k'.nodes[n]).verdict = (k.nodes[n]).verdict ∧ (k'.nodes[n]).binding = (k.nodes[n]).binding))

/-- R191, R192: the tick of running seconds and SET_CLOCK. -/
def Obligations.ClockRuns : Prop :=
  ∀ s : State,
    (s.inReset = false → s.dock.running < 4294967295 →
      exec .runningSecondsTick s = .next (s.on { s.dock with running := s.dock.running + 1 }).settle) ∧
    (s.inReset = false → s.dock.running = 4294967295 →
      exec .runningSecondsTick s = .next s.settle) ∧
    (∀ (tag : Byte) (time : Word), Ready s .site (.setClock time) →
      let k := { s.dock with offset := time - BitVec.ofNat 32 s.dock.running }
      exec (.setClock .site tag time) s =
        .next ((s.on k).answered .site tag (.setClock time)
          (okReply (numBytes4 s.dock.running ++ wordBytes k.offset ++ wordBytes time))) ∧
      k.siteTime = time)

/-! ### Invariants -/

/-- R163, R172: every step keeps the hold table coherent and the notes within their length. -/
def Obligations.HoldTableKept : Prop := ∀ s t : State, HoldTableOk s → step s = .next t → HoldTableOk t

/-- R195, R196, R198, R206: every step keeps the bounds of the input buffers, of the waiting OVERRUN
replies and of the notice queues, and what the receivers keep. -/
def Obligations.LinkBoundsKept : Prop :=
  ∀ s t : State, LinksOk s ∧ QueuesOk s.dock → step s = .next t → LinksOk t ∧ QueuesOk t.dock

/-- R148, R152, R159: every step keeps the alarm list and the alarm line in order. -/
def Obligations.AlarmListKept : Prop := ∀ s t : State, AlarmsOk s.dock → step s = .next t → AlarmsOk t.dock

/-- R135, R113: every step keeps each effective level at what latch, armed flag and plant-stop state
give, and each move gate as its phase gives. -/
def Obligations.OutputLevelsKept : Prop :=
  ∀ s t : State, ChannelsOk s.dock ∧ GatesOk s.dock → step s = .next t → ChannelsOk t.dock ∧ GatesOk t.dock

/-- R23, R24, R31: every step keeps the pallet table in order. -/
def Obligations.PalletTableKept : Prop :=
  ∀ s t : State, PalletsOk s.dock → step s = .next t → PalletsOk t.dock

/-- The invariants hold at reset. -/
def Obligations.InvariantsHoldAtReset : Prop :=
  HoldTableOk State.reset ∧ LinksOk State.reset ∧ QueuesOk State.reset.dock ∧ AlarmsOk State.reset.dock ∧
    ChannelsOk State.reset.dock ∧ GatesOk State.reset.dock ∧ PalletsOk State.reset.dock
end

