-- ==== Sys2Proof/Laws/State.lean ====
section
/-! SUPPORT. The fields of the state after each record update: one lemma per field per update. -/

namespace Sys2Proof.Machine

variable {k : Dock} {s : State}

@[simp] theorem Dock.modZone_zones (z : Fin 8) (f : Zone → Zone) : (k.modZone z f).zones = tmod k.zones z f := rfl
@[simp] theorem Dock.modZone_commissioning (z : Fin 8) (f : Zone → Zone) : (k.modZone z f).commissioning = k.commissioning := rfl
@[simp] theorem Dock.modZone_running (z : Fin 8) (f : Zone → Zone) : (k.modZone z f).running = k.running := rfl
@[simp] theorem Dock.modZone_offset (z : Fin 8) (f : Zone → Zone) : (k.modZone z f).offset = k.offset := rfl
@[simp] theorem Dock.modZone_probes (z : Fin 8) (f : Zone → Zone) : (k.modZone z f).probes = k.probes := rfl
@[simp] theorem Dock.modZone_classes (z : Fin 8) (f : Zone → Zone) : (k.modZone z f).classes = k.classes := rfl
@[simp] theorem Dock.modZone_pallets (z : Fin 8) (f : Zone → Zone) : (k.modZone z f).pallets = k.pallets := rfl
@[simp] theorem Dock.modZone_lanes (z : Fin 8) (f : Zone → Zone) : (k.modZone z f).lanes = k.lanes := rfl
@[simp] theorem Dock.modZone_rings (z : Fin 8) (f : Zone → Zone) : (k.modZone z f).rings = k.rings := rfl
@[simp] theorem Dock.modZone_doors (z : Fin 8) (f : Zone → Zone) : (k.modZone z f).doors = k.doors := rfl
@[simp] theorem Dock.modZone_defrosts (z : Fin 8) (f : Zone → Zone) : (k.modZone z f).defrosts = k.defrosts := rfl
@[simp] theorem Dock.modZone_slotLimit (z : Fin 8) (f : Zone → Zone) : (k.modZone z f).slotLimit = k.slotLimit := rfl
@[simp] theorem Dock.modZone_flights (z : Fin 8) (f : Zone → Zone) : (k.modZone z f).flights = k.flights := rfl
@[simp] theorem Dock.modZone_channels (z : Fin 8) (f : Zone → Zone) : (k.modZone z f).channels = k.channels := rfl
@[simp] theorem Dock.modZone_plantStop (z : Fin 8) (f : Zone → Zone) : (k.modZone z f).plantStop = k.plantStop := rfl
@[simp] theorem Dock.modZone_alarms (z : Fin 8) (f : Zone → Zone) : (k.modZone z f).alarms = k.alarms := rfl
@[simp] theorem Dock.modZone_overflow (z : Fin 8) (f : Zone → Zone) : (k.modZone z f).overflow = k.overflow := rfl
@[simp] theorem Dock.modZone_mask (z : Fin 8) (f : Zone → Zone) : (k.modZone z f).mask = k.mask := rfl
@[simp] theorem Dock.modZone_alarmLine (z : Fin 8) (f : Zone → Zone) : (k.modZone z f).alarmLine = k.alarmLine := rfl
@[simp] theorem Dock.modZone_nodes (z : Fin 8) (f : Zone → Zone) : (k.modZone z f).nodes = k.nodes := rfl
@[simp] theorem Dock.modZone_siteNotices (z : Fin 8) (f : Zone → Zone) : (k.modZone z f).siteNotices = k.siteNotices := rfl
@[simp] theorem Dock.modZone_floorNotices (z : Fin 8) (f : Zone → Zone) : (k.modZone z f).floorNotices = k.floorNotices := rfl

@[simp] theorem Dock.modProbe_probes (p : Fin 32) (f : Probe → Probe) : (k.modProbe p f).probes = tmod k.probes p f := rfl
@[simp] theorem Dock.modProbe_commissioning (p : Fin 32) (f : Probe → Probe) : (k.modProbe p f).commissioning = k.commissioning := rfl
@[simp] theorem Dock.modProbe_running (p : Fin 32) (f : Probe → Probe) : (k.modProbe p f).running = k.running := rfl
@[simp] theorem Dock.modProbe_offset (p : Fin 32) (f : Probe → Probe) : (k.modProbe p f).offset = k.offset := rfl
@[simp] theorem Dock.modProbe_zones (p : Fin 32) (f : Probe → Probe) : (k.modProbe p f).zones = k.zones := rfl
@[simp] theorem Dock.modProbe_classes (p : Fin 32) (f : Probe → Probe) : (k.modProbe p f).classes = k.classes := rfl
@[simp] theorem Dock.modProbe_pallets (p : Fin 32) (f : Probe → Probe) : (k.modProbe p f).pallets = k.pallets := rfl
@[simp] theorem Dock.modProbe_lanes (p : Fin 32) (f : Probe → Probe) : (k.modProbe p f).lanes = k.lanes := rfl
@[simp] theorem Dock.modProbe_rings (p : Fin 32) (f : Probe → Probe) : (k.modProbe p f).rings = k.rings := rfl
@[simp] theorem Dock.modProbe_doors (p : Fin 32) (f : Probe → Probe) : (k.modProbe p f).doors = k.doors := rfl
@[simp] theorem Dock.modProbe_defrosts (p : Fin 32) (f : Probe → Probe) : (k.modProbe p f).defrosts = k.defrosts := rfl
@[simp] theorem Dock.modProbe_slotLimit (p : Fin 32) (f : Probe → Probe) : (k.modProbe p f).slotLimit = k.slotLimit := rfl
@[simp] theorem Dock.modProbe_flights (p : Fin 32) (f : Probe → Probe) : (k.modProbe p f).flights = k.flights := rfl
@[simp] theorem Dock.modProbe_channels (p : Fin 32) (f : Probe → Probe) : (k.modProbe p f).channels = k.channels := rfl
@[simp] theorem Dock.modProbe_plantStop (p : Fin 32) (f : Probe → Probe) : (k.modProbe p f).plantStop = k.plantStop := rfl
@[simp] theorem Dock.modProbe_alarms (p : Fin 32) (f : Probe → Probe) : (k.modProbe p f).alarms = k.alarms := rfl
@[simp] theorem Dock.modProbe_overflow (p : Fin 32) (f : Probe → Probe) : (k.modProbe p f).overflow = k.overflow := rfl
@[simp] theorem Dock.modProbe_mask (p : Fin 32) (f : Probe → Probe) : (k.modProbe p f).mask = k.mask := rfl
@[simp] theorem Dock.modProbe_alarmLine (p : Fin 32) (f : Probe → Probe) : (k.modProbe p f).alarmLine = k.alarmLine := rfl
@[simp] theorem Dock.modProbe_nodes (p : Fin 32) (f : Probe → Probe) : (k.modProbe p f).nodes = k.nodes := rfl
@[simp] theorem Dock.modProbe_siteNotices (p : Fin 32) (f : Probe → Probe) : (k.modProbe p f).siteNotices = k.siteNotices := rfl
@[simp] theorem Dock.modProbe_floorNotices (p : Fin 32) (f : Probe → Probe) : (k.modProbe p f).floorNotices = k.floorNotices := rfl

@[simp] theorem Dock.modLane_lanes (l : Fin 24) (f : Lane → Lane) : (k.modLane l f).lanes = tmod k.lanes l f := rfl
@[simp] theorem Dock.modLane_commissioning (l : Fin 24) (f : Lane → Lane) : (k.modLane l f).commissioning = k.commissioning := rfl
@[simp] theorem Dock.modLane_running (l : Fin 24) (f : Lane → Lane) : (k.modLane l f).running = k.running := rfl
@[simp] theorem Dock.modLane_offset (l : Fin 24) (f : Lane → Lane) : (k.modLane l f).offset = k.offset := rfl
@[simp] theorem Dock.modLane_zones (l : Fin 24) (f : Lane → Lane) : (k.modLane l f).zones = k.zones := rfl
@[simp] theorem Dock.modLane_probes (l : Fin 24) (f : Lane → Lane) : (k.modLane l f).probes = k.probes := rfl
@[simp] theorem Dock.modLane_classes (l : Fin 24) (f : Lane → Lane) : (k.modLane l f).classes = k.classes := rfl
@[simp] theorem Dock.modLane_pallets (l : Fin 24) (f : Lane → Lane) : (k.modLane l f).pallets = k.pallets := rfl
@[simp] theorem Dock.modLane_rings (l : Fin 24) (f : Lane → Lane) : (k.modLane l f).rings = k.rings := rfl
@[simp] theorem Dock.modLane_doors (l : Fin 24) (f : Lane → Lane) : (k.modLane l f).doors = k.doors := rfl
@[simp] theorem Dock.modLane_defrosts (l : Fin 24) (f : Lane → Lane) : (k.modLane l f).defrosts = k.defrosts := rfl
@[simp] theorem Dock.modLane_slotLimit (l : Fin 24) (f : Lane → Lane) : (k.modLane l f).slotLimit = k.slotLimit := rfl
@[simp] theorem Dock.modLane_flights (l : Fin 24) (f : Lane → Lane) : (k.modLane l f).flights = k.flights := rfl
@[simp] theorem Dock.modLane_channels (l : Fin 24) (f : Lane → Lane) : (k.modLane l f).channels = k.channels := rfl
@[simp] theorem Dock.modLane_plantStop (l : Fin 24) (f : Lane → Lane) : (k.modLane l f).plantStop = k.plantStop := rfl
@[simp] theorem Dock.modLane_alarms (l : Fin 24) (f : Lane → Lane) : (k.modLane l f).alarms = k.alarms := rfl
@[simp] theorem Dock.modLane_overflow (l : Fin 24) (f : Lane → Lane) : (k.modLane l f).overflow = k.overflow := rfl
@[simp] theorem Dock.modLane_mask (l : Fin 24) (f : Lane → Lane) : (k.modLane l f).mask = k.mask := rfl
@[simp] theorem Dock.modLane_alarmLine (l : Fin 24) (f : Lane → Lane) : (k.modLane l f).alarmLine = k.alarmLine := rfl
@[simp] theorem Dock.modLane_nodes (l : Fin 24) (f : Lane → Lane) : (k.modLane l f).nodes = k.nodes := rfl
@[simp] theorem Dock.modLane_siteNotices (l : Fin 24) (f : Lane → Lane) : (k.modLane l f).siteNotices = k.siteNotices := rfl
@[simp] theorem Dock.modLane_floorNotices (l : Fin 24) (f : Lane → Lane) : (k.modLane l f).floorNotices = k.floorNotices := rfl

@[simp] theorem Dock.modRing_rings (r : Fin 20) (f : Ring → Ring) : (k.modRing r f).rings = tmod k.rings r f := rfl
@[simp] theorem Dock.modRing_commissioning (r : Fin 20) (f : Ring → Ring) : (k.modRing r f).commissioning = k.commissioning := rfl
@[simp] theorem Dock.modRing_running (r : Fin 20) (f : Ring → Ring) : (k.modRing r f).running = k.running := rfl
@[simp] theorem Dock.modRing_offset (r : Fin 20) (f : Ring → Ring) : (k.modRing r f).offset = k.offset := rfl
@[simp] theorem Dock.modRing_zones (r : Fin 20) (f : Ring → Ring) : (k.modRing r f).zones = k.zones := rfl
@[simp] theorem Dock.modRing_probes (r : Fin 20) (f : Ring → Ring) : (k.modRing r f).probes = k.probes := rfl
@[simp] theorem Dock.modRing_classes (r : Fin 20) (f : Ring → Ring) : (k.modRing r f).classes = k.classes := rfl
@[simp] theorem Dock.modRing_pallets (r : Fin 20) (f : Ring → Ring) : (k.modRing r f).pallets = k.pallets := rfl
@[simp] theorem Dock.modRing_lanes (r : Fin 20) (f : Ring → Ring) : (k.modRing r f).lanes = k.lanes := rfl
@[simp] theorem Dock.modRing_doors (r : Fin 20) (f : Ring → Ring) : (k.modRing r f).doors = k.doors := rfl
@[simp] theorem Dock.modRing_defrosts (r : Fin 20) (f : Ring → Ring) : (k.modRing r f).defrosts = k.defrosts := rfl
@[simp] theorem Dock.modRing_slotLimit (r : Fin 20) (f : Ring → Ring) : (k.modRing r f).slotLimit = k.slotLimit := rfl
@[simp] theorem Dock.modRing_flights (r : Fin 20) (f : Ring → Ring) : (k.modRing r f).flights = k.flights := rfl
@[simp] theorem Dock.modRing_channels (r : Fin 20) (f : Ring → Ring) : (k.modRing r f).channels = k.channels := rfl
@[simp] theorem Dock.modRing_plantStop (r : Fin 20) (f : Ring → Ring) : (k.modRing r f).plantStop = k.plantStop := rfl
@[simp] theorem Dock.modRing_alarms (r : Fin 20) (f : Ring → Ring) : (k.modRing r f).alarms = k.alarms := rfl
@[simp] theorem Dock.modRing_overflow (r : Fin 20) (f : Ring → Ring) : (k.modRing r f).overflow = k.overflow := rfl
@[simp] theorem Dock.modRing_mask (r : Fin 20) (f : Ring → Ring) : (k.modRing r f).mask = k.mask := rfl
@[simp] theorem Dock.modRing_alarmLine (r : Fin 20) (f : Ring → Ring) : (k.modRing r f).alarmLine = k.alarmLine := rfl
@[simp] theorem Dock.modRing_nodes (r : Fin 20) (f : Ring → Ring) : (k.modRing r f).nodes = k.nodes := rfl
@[simp] theorem Dock.modRing_siteNotices (r : Fin 20) (f : Ring → Ring) : (k.modRing r f).siteNotices = k.siteNotices := rfl
@[simp] theorem Dock.modRing_floorNotices (r : Fin 20) (f : Ring → Ring) : (k.modRing r f).floorNotices = k.floorNotices := rfl

@[simp] theorem Dock.modDoor_doors (d : Fin 16) (f : Door → Door) : (k.modDoor d f).doors = tmod k.doors d f := rfl
@[simp] theorem Dock.modDoor_commissioning (d : Fin 16) (f : Door → Door) : (k.modDoor d f).commissioning = k.commissioning := rfl
@[simp] theorem Dock.modDoor_running (d : Fin 16) (f : Door → Door) : (k.modDoor d f).running = k.running := rfl
@[simp] theorem Dock.modDoor_offset (d : Fin 16) (f : Door → Door) : (k.modDoor d f).offset = k.offset := rfl
@[simp] theorem Dock.modDoor_zones (d : Fin 16) (f : Door → Door) : (k.modDoor d f).zones = k.zones := rfl
@[simp] theorem Dock.modDoor_probes (d : Fin 16) (f : Door → Door) : (k.modDoor d f).probes = k.probes := rfl
@[simp] theorem Dock.modDoor_classes (d : Fin 16) (f : Door → Door) : (k.modDoor d f).classes = k.classes := rfl
@[simp] theorem Dock.modDoor_pallets (d : Fin 16) (f : Door → Door) : (k.modDoor d f).pallets = k.pallets := rfl
@[simp] theorem Dock.modDoor_lanes (d : Fin 16) (f : Door → Door) : (k.modDoor d f).lanes = k.lanes := rfl
@[simp] theorem Dock.modDoor_rings (d : Fin 16) (f : Door → Door) : (k.modDoor d f).rings = k.rings := rfl
@[simp] theorem Dock.modDoor_defrosts (d : Fin 16) (f : Door → Door) : (k.modDoor d f).defrosts = k.defrosts := rfl
@[simp] theorem Dock.modDoor_slotLimit (d : Fin 16) (f : Door → Door) : (k.modDoor d f).slotLimit = k.slotLimit := rfl
@[simp] theorem Dock.modDoor_flights (d : Fin 16) (f : Door → Door) : (k.modDoor d f).flights = k.flights := rfl
@[simp] theorem Dock.modDoor_channels (d : Fin 16) (f : Door → Door) : (k.modDoor d f).channels = k.channels := rfl
@[simp] theorem Dock.modDoor_plantStop (d : Fin 16) (f : Door → Door) : (k.modDoor d f).plantStop = k.plantStop := rfl
@[simp] theorem Dock.modDoor_alarms (d : Fin 16) (f : Door → Door) : (k.modDoor d f).alarms = k.alarms := rfl
@[simp] theorem Dock.modDoor_overflow (d : Fin 16) (f : Door → Door) : (k.modDoor d f).overflow = k.overflow := rfl
@[simp] theorem Dock.modDoor_mask (d : Fin 16) (f : Door → Door) : (k.modDoor d f).mask = k.mask := rfl
@[simp] theorem Dock.modDoor_alarmLine (d : Fin 16) (f : Door → Door) : (k.modDoor d f).alarmLine = k.alarmLine := rfl
@[simp] theorem Dock.modDoor_nodes (d : Fin 16) (f : Door → Door) : (k.modDoor d f).nodes = k.nodes := rfl
@[simp] theorem Dock.modDoor_siteNotices (d : Fin 16) (f : Door → Door) : (k.modDoor d f).siteNotices = k.siteNotices := rfl
@[simp] theorem Dock.modDoor_floorNotices (d : Fin 16) (f : Door → Door) : (k.modDoor d f).floorNotices = k.floorNotices := rfl

@[simp] theorem Dock.modDefrost_defrosts (z : Fin 8) (f : Defrost → Defrost) : (k.modDefrost z f).defrosts = tmod k.defrosts z f := rfl
@[simp] theorem Dock.modDefrost_commissioning (z : Fin 8) (f : Defrost → Defrost) : (k.modDefrost z f).commissioning = k.commissioning := rfl
@[simp] theorem Dock.modDefrost_running (z : Fin 8) (f : Defrost → Defrost) : (k.modDefrost z f).running = k.running := rfl
@[simp] theorem Dock.modDefrost_offset (z : Fin 8) (f : Defrost → Defrost) : (k.modDefrost z f).offset = k.offset := rfl
@[simp] theorem Dock.modDefrost_zones (z : Fin 8) (f : Defrost → Defrost) : (k.modDefrost z f).zones = k.zones := rfl
@[simp] theorem Dock.modDefrost_probes (z : Fin 8) (f : Defrost → Defrost) : (k.modDefrost z f).probes = k.probes := rfl
@[simp] theorem Dock.modDefrost_classes (z : Fin 8) (f : Defrost → Defrost) : (k.modDefrost z f).classes = k.classes := rfl
@[simp] theorem Dock.modDefrost_pallets (z : Fin 8) (f : Defrost → Defrost) : (k.modDefrost z f).pallets = k.pallets := rfl
@[simp] theorem Dock.modDefrost_lanes (z : Fin 8) (f : Defrost → Defrost) : (k.modDefrost z f).lanes = k.lanes := rfl
@[simp] theorem Dock.modDefrost_rings (z : Fin 8) (f : Defrost → Defrost) : (k.modDefrost z f).rings = k.rings := rfl
@[simp] theorem Dock.modDefrost_doors (z : Fin 8) (f : Defrost → Defrost) : (k.modDefrost z f).doors = k.doors := rfl
@[simp] theorem Dock.modDefrost_slotLimit (z : Fin 8) (f : Defrost → Defrost) : (k.modDefrost z f).slotLimit = k.slotLimit := rfl
@[simp] theorem Dock.modDefrost_flights (z : Fin 8) (f : Defrost → Defrost) : (k.modDefrost z f).flights = k.flights := rfl
@[simp] theorem Dock.modDefrost_channels (z : Fin 8) (f : Defrost → Defrost) : (k.modDefrost z f).channels = k.channels := rfl
@[simp] theorem Dock.modDefrost_plantStop (z : Fin 8) (f : Defrost → Defrost) : (k.modDefrost z f).plantStop = k.plantStop := rfl
@[simp] theorem Dock.modDefrost_alarms (z : Fin 8) (f : Defrost → Defrost) : (k.modDefrost z f).alarms = k.alarms := rfl
@[simp] theorem Dock.modDefrost_overflow (z : Fin 8) (f : Defrost → Defrost) : (k.modDefrost z f).overflow = k.overflow := rfl
@[simp] theorem Dock.modDefrost_mask (z : Fin 8) (f : Defrost → Defrost) : (k.modDefrost z f).mask = k.mask := rfl
@[simp] theorem Dock.modDefrost_alarmLine (z : Fin 8) (f : Defrost → Defrost) : (k.modDefrost z f).alarmLine = k.alarmLine := rfl
@[simp] theorem Dock.modDefrost_nodes (z : Fin 8) (f : Defrost → Defrost) : (k.modDefrost z f).nodes = k.nodes := rfl
@[simp] theorem Dock.modDefrost_siteNotices (z : Fin 8) (f : Defrost → Defrost) : (k.modDefrost z f).siteNotices = k.siteNotices := rfl
@[simp] theorem Dock.modDefrost_floorNotices (z : Fin 8) (f : Defrost → Defrost) : (k.modDefrost z f).floorNotices = k.floorNotices := rfl

@[simp] theorem Dock.modChannel_channels (c : Fin 48) (f : Channel → Channel) : (k.modChannel c f).channels = tmod k.channels c f := rfl
@[simp] theorem Dock.modChannel_commissioning (c : Fin 48) (f : Channel → Channel) : (k.modChannel c f).commissioning = k.commissioning := rfl
@[simp] theorem Dock.modChannel_running (c : Fin 48) (f : Channel → Channel) : (k.modChannel c f).running = k.running := rfl
@[simp] theorem Dock.modChannel_offset (c : Fin 48) (f : Channel → Channel) : (k.modChannel c f).offset = k.offset := rfl
@[simp] theorem Dock.modChannel_zones (c : Fin 48) (f : Channel → Channel) : (k.modChannel c f).zones = k.zones := rfl
@[simp] theorem Dock.modChannel_probes (c : Fin 48) (f : Channel → Channel) : (k.modChannel c f).probes = k.probes := rfl
@[simp] theorem Dock.modChannel_classes (c : Fin 48) (f : Channel → Channel) : (k.modChannel c f).classes = k.classes := rfl
@[simp] theorem Dock.modChannel_pallets (c : Fin 48) (f : Channel → Channel) : (k.modChannel c f).pallets = k.pallets := rfl
@[simp] theorem Dock.modChannel_lanes (c : Fin 48) (f : Channel → Channel) : (k.modChannel c f).lanes = k.lanes := rfl
@[simp] theorem Dock.modChannel_rings (c : Fin 48) (f : Channel → Channel) : (k.modChannel c f).rings = k.rings := rfl
@[simp] theorem Dock.modChannel_doors (c : Fin 48) (f : Channel → Channel) : (k.modChannel c f).doors = k.doors := rfl
@[simp] theorem Dock.modChannel_defrosts (c : Fin 48) (f : Channel → Channel) : (k.modChannel c f).defrosts = k.defrosts := rfl
@[simp] theorem Dock.modChannel_slotLimit (c : Fin 48) (f : Channel → Channel) : (k.modChannel c f).slotLimit = k.slotLimit := rfl
@[simp] theorem Dock.modChannel_flights (c : Fin 48) (f : Channel → Channel) : (k.modChannel c f).flights = k.flights := rfl
@[simp] theorem Dock.modChannel_plantStop (c : Fin 48) (f : Channel → Channel) : (k.modChannel c f).plantStop = k.plantStop := rfl
@[simp] theorem Dock.modChannel_alarms (c : Fin 48) (f : Channel → Channel) : (k.modChannel c f).alarms = k.alarms := rfl
@[simp] theorem Dock.modChannel_overflow (c : Fin 48) (f : Channel → Channel) : (k.modChannel c f).overflow = k.overflow := rfl
@[simp] theorem Dock.modChannel_mask (c : Fin 48) (f : Channel → Channel) : (k.modChannel c f).mask = k.mask := rfl
@[simp] theorem Dock.modChannel_alarmLine (c : Fin 48) (f : Channel → Channel) : (k.modChannel c f).alarmLine = k.alarmLine := rfl
@[simp] theorem Dock.modChannel_nodes (c : Fin 48) (f : Channel → Channel) : (k.modChannel c f).nodes = k.nodes := rfl
@[simp] theorem Dock.modChannel_siteNotices (c : Fin 48) (f : Channel → Channel) : (k.modChannel c f).siteNotices = k.siteNotices := rfl
@[simp] theorem Dock.modChannel_floorNotices (c : Fin 48) (f : Channel → Channel) : (k.modChannel c f).floorNotices = k.floorNotices := rfl

@[simp] theorem Dock.modNode_nodes (n : Fin 48) (f : Node → Node) : (k.modNode n f).nodes = tmod k.nodes n f := rfl
@[simp] theorem Dock.modNode_commissioning (n : Fin 48) (f : Node → Node) : (k.modNode n f).commissioning = k.commissioning := rfl
@[simp] theorem Dock.modNode_running (n : Fin 48) (f : Node → Node) : (k.modNode n f).running = k.running := rfl
@[simp] theorem Dock.modNode_offset (n : Fin 48) (f : Node → Node) : (k.modNode n f).offset = k.offset := rfl
@[simp] theorem Dock.modNode_zones (n : Fin 48) (f : Node → Node) : (k.modNode n f).zones = k.zones := rfl
@[simp] theorem Dock.modNode_probes (n : Fin 48) (f : Node → Node) : (k.modNode n f).probes = k.probes := rfl
@[simp] theorem Dock.modNode_classes (n : Fin 48) (f : Node → Node) : (k.modNode n f).classes = k.classes := rfl
@[simp] theorem Dock.modNode_pallets (n : Fin 48) (f : Node → Node) : (k.modNode n f).pallets = k.pallets := rfl
@[simp] theorem Dock.modNode_lanes (n : Fin 48) (f : Node → Node) : (k.modNode n f).lanes = k.lanes := rfl
@[simp] theorem Dock.modNode_rings (n : Fin 48) (f : Node → Node) : (k.modNode n f).rings = k.rings := rfl
@[simp] theorem Dock.modNode_doors (n : Fin 48) (f : Node → Node) : (k.modNode n f).doors = k.doors := rfl
@[simp] theorem Dock.modNode_defrosts (n : Fin 48) (f : Node → Node) : (k.modNode n f).defrosts = k.defrosts := rfl
@[simp] theorem Dock.modNode_slotLimit (n : Fin 48) (f : Node → Node) : (k.modNode n f).slotLimit = k.slotLimit := rfl
@[simp] theorem Dock.modNode_flights (n : Fin 48) (f : Node → Node) : (k.modNode n f).flights = k.flights := rfl
@[simp] theorem Dock.modNode_channels (n : Fin 48) (f : Node → Node) : (k.modNode n f).channels = k.channels := rfl
@[simp] theorem Dock.modNode_plantStop (n : Fin 48) (f : Node → Node) : (k.modNode n f).plantStop = k.plantStop := rfl
@[simp] theorem Dock.modNode_alarms (n : Fin 48) (f : Node → Node) : (k.modNode n f).alarms = k.alarms := rfl
@[simp] theorem Dock.modNode_overflow (n : Fin 48) (f : Node → Node) : (k.modNode n f).overflow = k.overflow := rfl
@[simp] theorem Dock.modNode_mask (n : Fin 48) (f : Node → Node) : (k.modNode n f).mask = k.mask := rfl
@[simp] theorem Dock.modNode_alarmLine (n : Fin 48) (f : Node → Node) : (k.modNode n f).alarmLine = k.alarmLine := rfl
@[simp] theorem Dock.modNode_siteNotices (n : Fin 48) (f : Node → Node) : (k.modNode n f).siteNotices = k.siteNotices := rfl
@[simp] theorem Dock.modNode_floorNotices (n : Fin 48) (f : Node → Node) : (k.modNode n f).floorNotices = k.floorNotices := rfl

@[simp] theorem Dock.modPallet_commissioning (slot : Nat) (f : Pallet → Pallet) : (k.modPallet slot f).commissioning = k.commissioning := rfl
@[simp] theorem Dock.modPallet_running (slot : Nat) (f : Pallet → Pallet) : (k.modPallet slot f).running = k.running := rfl
@[simp] theorem Dock.modPallet_offset (slot : Nat) (f : Pallet → Pallet) : (k.modPallet slot f).offset = k.offset := rfl
@[simp] theorem Dock.modPallet_zones (slot : Nat) (f : Pallet → Pallet) : (k.modPallet slot f).zones = k.zones := rfl
@[simp] theorem Dock.modPallet_probes (slot : Nat) (f : Pallet → Pallet) : (k.modPallet slot f).probes = k.probes := rfl
@[simp] theorem Dock.modPallet_classes (slot : Nat) (f : Pallet → Pallet) : (k.modPallet slot f).classes = k.classes := rfl
@[simp] theorem Dock.modPallet_lanes (slot : Nat) (f : Pallet → Pallet) : (k.modPallet slot f).lanes = k.lanes := rfl
@[simp] theorem Dock.modPallet_rings (slot : Nat) (f : Pallet → Pallet) : (k.modPallet slot f).rings = k.rings := rfl
@[simp] theorem Dock.modPallet_doors (slot : Nat) (f : Pallet → Pallet) : (k.modPallet slot f).doors = k.doors := rfl
@[simp] theorem Dock.modPallet_defrosts (slot : Nat) (f : Pallet → Pallet) : (k.modPallet slot f).defrosts = k.defrosts := rfl
@[simp] theorem Dock.modPallet_slotLimit (slot : Nat) (f : Pallet → Pallet) : (k.modPallet slot f).slotLimit = k.slotLimit := rfl
@[simp] theorem Dock.modPallet_flights (slot : Nat) (f : Pallet → Pallet) : (k.modPallet slot f).flights = k.flights := rfl
@[simp] theorem Dock.modPallet_channels (slot : Nat) (f : Pallet → Pallet) : (k.modPallet slot f).channels = k.channels := rfl
@[simp] theorem Dock.modPallet_plantStop (slot : Nat) (f : Pallet → Pallet) : (k.modPallet slot f).plantStop = k.plantStop := rfl
@[simp] theorem Dock.modPallet_alarms (slot : Nat) (f : Pallet → Pallet) : (k.modPallet slot f).alarms = k.alarms := rfl
@[simp] theorem Dock.modPallet_overflow (slot : Nat) (f : Pallet → Pallet) : (k.modPallet slot f).overflow = k.overflow := rfl
@[simp] theorem Dock.modPallet_mask (slot : Nat) (f : Pallet → Pallet) : (k.modPallet slot f).mask = k.mask := rfl
@[simp] theorem Dock.modPallet_alarmLine (slot : Nat) (f : Pallet → Pallet) : (k.modPallet slot f).alarmLine = k.alarmLine := rfl
@[simp] theorem Dock.modPallet_nodes (slot : Nat) (f : Pallet → Pallet) : (k.modPallet slot f).nodes = k.nodes := rfl
@[simp] theorem Dock.modPallet_siteNotices (slot : Nat) (f : Pallet → Pallet) : (k.modPallet slot f).siteNotices = k.siteNotices := rfl
@[simp] theorem Dock.modPallet_floorNotices (slot : Nat) (f : Pallet → Pallet) : (k.modPallet slot f).floorNotices = k.floorNotices := rfl

@[simp] theorem Dock.emptySlot_commissioning (slot : Nat) : (k.emptySlot slot).commissioning = k.commissioning := rfl
@[simp] theorem Dock.emptySlot_running (slot : Nat) : (k.emptySlot slot).running = k.running := rfl
@[simp] theorem Dock.emptySlot_offset (slot : Nat) : (k.emptySlot slot).offset = k.offset := rfl
@[simp] theorem Dock.emptySlot_zones (slot : Nat) : (k.emptySlot slot).zones = k.zones := rfl
@[simp] theorem Dock.emptySlot_probes (slot : Nat) : (k.emptySlot slot).probes = k.probes := rfl
@[simp] theorem Dock.emptySlot_classes (slot : Nat) : (k.emptySlot slot).classes = k.classes := rfl
@[simp] theorem Dock.emptySlot_lanes (slot : Nat) : (k.emptySlot slot).lanes = k.lanes := rfl
@[simp] theorem Dock.emptySlot_rings (slot : Nat) : (k.emptySlot slot).rings = k.rings := rfl
@[simp] theorem Dock.emptySlot_doors (slot : Nat) : (k.emptySlot slot).doors = k.doors := rfl
@[simp] theorem Dock.emptySlot_defrosts (slot : Nat) : (k.emptySlot slot).defrosts = k.defrosts := rfl
@[simp] theorem Dock.emptySlot_slotLimit (slot : Nat) : (k.emptySlot slot).slotLimit = k.slotLimit := rfl
@[simp] theorem Dock.emptySlot_flights (slot : Nat) : (k.emptySlot slot).flights = k.flights := rfl
@[simp] theorem Dock.emptySlot_channels (slot : Nat) : (k.emptySlot slot).channels = k.channels := rfl
@[simp] theorem Dock.emptySlot_plantStop (slot : Nat) : (k.emptySlot slot).plantStop = k.plantStop := rfl
@[simp] theorem Dock.emptySlot_alarms (slot : Nat) : (k.emptySlot slot).alarms = k.alarms := rfl
@[simp] theorem Dock.emptySlot_overflow (slot : Nat) : (k.emptySlot slot).overflow = k.overflow := rfl
@[simp] theorem Dock.emptySlot_mask (slot : Nat) : (k.emptySlot slot).mask = k.mask := rfl
@[simp] theorem Dock.emptySlot_alarmLine (slot : Nat) : (k.emptySlot slot).alarmLine = k.alarmLine := rfl
@[simp] theorem Dock.emptySlot_nodes (slot : Nat) : (k.emptySlot slot).nodes = k.nodes := rfl
@[simp] theorem Dock.emptySlot_siteNotices (slot : Nat) : (k.emptySlot slot).siteNotices = k.siteNotices := rfl
@[simp] theorem Dock.emptySlot_floorNotices (slot : Nat) : (k.emptySlot slot).floorNotices = k.floorNotices := rfl

@[simp] theorem Dock.modNoticeEnd_commissioning (l : Link) (f : NoticeEnd → NoticeEnd) :
    (k.modNoticeEnd l f).commissioning = k.commissioning := by cases l <;> rfl
@[simp] theorem Dock.modNoticeEnd_running (l : Link) (f : NoticeEnd → NoticeEnd) :
    (k.modNoticeEnd l f).running = k.running := by cases l <;> rfl
@[simp] theorem Dock.modNoticeEnd_offset (l : Link) (f : NoticeEnd → NoticeEnd) :
    (k.modNoticeEnd l f).offset = k.offset := by cases l <;> rfl
@[simp] theorem Dock.modNoticeEnd_zones (l : Link) (f : NoticeEnd → NoticeEnd) :
    (k.modNoticeEnd l f).zones = k.zones := by cases l <;> rfl
@[simp] theorem Dock.modNoticeEnd_probes (l : Link) (f : NoticeEnd → NoticeEnd) :
    (k.modNoticeEnd l f).probes = k.probes := by cases l <;> rfl
@[simp] theorem Dock.modNoticeEnd_classes (l : Link) (f : NoticeEnd → NoticeEnd) :
    (k.modNoticeEnd l f).classes = k.classes := by cases l <;> rfl
@[simp] theorem Dock.modNoticeEnd_pallets (l : Link) (f : NoticeEnd → NoticeEnd) :
    (k.modNoticeEnd l f).pallets = k.pallets := by cases l <;> rfl
@[simp] theorem Dock.modNoticeEnd_lanes (l : Link) (f : NoticeEnd → NoticeEnd) :
    (k.modNoticeEnd l f).lanes = k.lanes := by cases l <;> rfl
@[simp] theorem Dock.modNoticeEnd_rings (l : Link) (f : NoticeEnd → NoticeEnd) :
    (k.modNoticeEnd l f).rings = k.rings := by cases l <;> rfl
@[simp] theorem Dock.modNoticeEnd_doors (l : Link) (f : NoticeEnd → NoticeEnd) :
    (k.modNoticeEnd l f).doors = k.doors := by cases l <;> rfl
@[simp] theorem Dock.modNoticeEnd_defrosts (l : Link) (f : NoticeEnd → NoticeEnd) :
    (k.modNoticeEnd l f).defrosts = k.defrosts := by cases l <;> rfl
@[simp] theorem Dock.modNoticeEnd_slotLimit (l : Link) (f : NoticeEnd → NoticeEnd) :
    (k.modNoticeEnd l f).slotLimit = k.slotLimit := by cases l <;> rfl
@[simp] theorem Dock.modNoticeEnd_flights (l : Link) (f : NoticeEnd → NoticeEnd) :
    (k.modNoticeEnd l f).flights = k.flights := by cases l <;> rfl
@[simp] theorem Dock.modNoticeEnd_channels (l : Link) (f : NoticeEnd → NoticeEnd) :
    (k.modNoticeEnd l f).channels = k.channels := by cases l <;> rfl
@[simp] theorem Dock.modNoticeEnd_plantStop (l : Link) (f : NoticeEnd → NoticeEnd) :
    (k.modNoticeEnd l f).plantStop = k.plantStop := by cases l <;> rfl
@[simp] theorem Dock.modNoticeEnd_alarms (l : Link) (f : NoticeEnd → NoticeEnd) :
    (k.modNoticeEnd l f).alarms = k.alarms := by cases l <;> rfl
@[simp] theorem Dock.modNoticeEnd_overflow (l : Link) (f : NoticeEnd → NoticeEnd) :
    (k.modNoticeEnd l f).overflow = k.overflow := by cases l <;> rfl
@[simp] theorem Dock.modNoticeEnd_mask (l : Link) (f : NoticeEnd → NoticeEnd) :
    (k.modNoticeEnd l f).mask = k.mask := by cases l <;> rfl
@[simp] theorem Dock.modNoticeEnd_alarmLine (l : Link) (f : NoticeEnd → NoticeEnd) :
    (k.modNoticeEnd l f).alarmLine = k.alarmLine := by cases l <;> rfl
@[simp] theorem Dock.modNoticeEnd_nodes (l : Link) (f : NoticeEnd → NoticeEnd) :
    (k.modNoticeEnd l f).nodes = k.nodes := by cases l <;> rfl

@[simp] theorem State.modLink_dock (l : Link) (f : LinkEnd → LinkEnd) :
    (s.modLink l f).dock = s.dock := by cases l <;> rfl
@[simp] theorem State.modLink_holds (l : Link) (f : LinkEnd → LinkEnd) :
    (s.modLink l f).holds = s.holds := by cases l <;> rfl
@[simp] theorem State.modLink_noteToFloor (l : Link) (f : LinkEnd → LinkEnd) :
    (s.modLink l f).noteToFloor = s.noteToFloor := by cases l <;> rfl
@[simp] theorem State.modLink_noteToSite (l : Link) (f : LinkEnd → LinkEnd) :
    (s.modLink l f).noteToSite = s.noteToSite := by cases l <;> rfl
@[simp] theorem State.modLink_restarts (l : Link) (f : LinkEnd → LinkEnd) :
    (s.modLink l f).restarts = s.restarts := by cases l <;> rfl
@[simp] theorem State.modLink_lastPolled (l : Link) (f : LinkEnd → LinkEnd) :
    (s.modLink l f).lastPolled = s.lastPolled := by cases l <;> rfl
@[simp] theorem State.modLink_transaction (l : Link) (f : LinkEnd → LinkEnd) :
    (s.modLink l f).transaction = s.transaction := by cases l <;> rfl
@[simp] theorem State.modLink_plantLine (l : Link) (f : LinkEnd → LinkEnd) :
    (s.modLink l f).plantLine = s.plantLine := by cases l <;> rfl
@[simp] theorem State.modLink_inReset (l : Link) (f : LinkEnd → LinkEnd) :
    (s.modLink l f).inReset = s.inReset := by cases l <;> rfl
@[simp] theorem State.modLink_pending (l : Link) (f : LinkEnd → LinkEnd) :
    (s.modLink l f).pending = s.pending := by cases l <;> rfl
@[simp] theorem State.modLink_same (l : Link) (f : LinkEnd → LinkEnd) :
    (s.modLink l f).linkEnd l = f (s.linkEnd l) := by cases l <;> rfl
@[simp] theorem State.modLink_other (l : Link) (f : LinkEnd → LinkEnd) :
    (s.modLink l f).linkEnd (otherLink l) = s.linkEnd (otherLink l) := by cases l <;> rfl

@[simp] theorem State.modHold_dock (d : Fin 16) (f : Hold → Hold) : (s.modHold d f).dock = s.dock := rfl
@[simp] theorem State.modHold_noteToFloor (d : Fin 16) (f : Hold → Hold) : (s.modHold d f).noteToFloor = s.noteToFloor := rfl
@[simp] theorem State.modHold_noteToSite (d : Fin 16) (f : Hold → Hold) : (s.modHold d f).noteToSite = s.noteToSite := rfl
@[simp] theorem State.modHold_site (d : Fin 16) (f : Hold → Hold) : (s.modHold d f).site = s.site := rfl
@[simp] theorem State.modHold_floor (d : Fin 16) (f : Hold → Hold) : (s.modHold d f).floor = s.floor := rfl
@[simp] theorem State.modHold_restarts (d : Fin 16) (f : Hold → Hold) : (s.modHold d f).restarts = s.restarts := rfl
@[simp] theorem State.modHold_lastPolled (d : Fin 16) (f : Hold → Hold) : (s.modHold d f).lastPolled = s.lastPolled := rfl
@[simp] theorem State.modHold_transaction (d : Fin 16) (f : Hold → Hold) : (s.modHold d f).transaction = s.transaction := rfl
@[simp] theorem State.modHold_plantLine (d : Fin 16) (f : Hold → Hold) : (s.modHold d f).plantLine = s.plantLine := rfl
@[simp] theorem State.modHold_inReset (d : Fin 16) (f : Hold → Hold) : (s.modHold d f).inReset = s.inReset := rfl
@[simp] theorem State.modHold_pending (d : Fin 16) (f : Hold → Hold) : (s.modHold d f).pending = s.pending := rfl
@[simp] theorem State.modHold_holds (d : Fin 16) (f : Hold → Hold) :
    (s.modHold d f).holds = tmod s.holds d f := rfl

@[simp] theorem State.notifyLink_holds (l : Link) (n : Notice) : (s.notifyLink l n).holds = s.holds := rfl
@[simp] theorem State.notifyLink_noteToFloor (l : Link) (n : Notice) : (s.notifyLink l n).noteToFloor = s.noteToFloor := rfl
@[simp] theorem State.notifyLink_noteToSite (l : Link) (n : Notice) : (s.notifyLink l n).noteToSite = s.noteToSite := rfl
@[simp] theorem State.notifyLink_site (l : Link) (n : Notice) : (s.notifyLink l n).site = s.site := rfl
@[simp] theorem State.notifyLink_floor (l : Link) (n : Notice) : (s.notifyLink l n).floor = s.floor := rfl
@[simp] theorem State.notifyLink_restarts (l : Link) (n : Notice) : (s.notifyLink l n).restarts = s.restarts := rfl
@[simp] theorem State.notifyLink_lastPolled (l : Link) (n : Notice) : (s.notifyLink l n).lastPolled = s.lastPolled := rfl
@[simp] theorem State.notifyLink_transaction (l : Link) (n : Notice) : (s.notifyLink l n).transaction = s.transaction := rfl
@[simp] theorem State.notifyLink_plantLine (l : Link) (n : Notice) : (s.notifyLink l n).plantLine = s.plantLine := rfl
@[simp] theorem State.notifyLink_inReset (l : Link) (n : Notice) : (s.notifyLink l n).inReset = s.inReset := rfl
@[simp] theorem State.notifyLink_pending (l : Link) (n : Notice) : (s.notifyLink l n).pending = s.pending := rfl
@[simp] theorem State.notifyLink_dock (l : Link) (n : Notice) :
    (s.notifyLink l n).dock = s.dock.notifyLink l n := rfl

@[simp] theorem State.setNoteTo_dock (l : Link) (t : Option (List Byte)) :
    (s.setNoteTo l t).dock = s.dock := by cases l <;> rfl
@[simp] theorem State.setNoteTo_holds (l : Link) (t : Option (List Byte)) :
    (s.setNoteTo l t).holds = s.holds := by cases l <;> rfl
@[simp] theorem State.setNoteTo_site (l : Link) (t : Option (List Byte)) :
    (s.setNoteTo l t).site = s.site := by cases l <;> rfl
@[simp] theorem State.setNoteTo_floor (l : Link) (t : Option (List Byte)) :
    (s.setNoteTo l t).floor = s.floor := by cases l <;> rfl
@[simp] theorem State.setNoteTo_restarts (l : Link) (t : Option (List Byte)) :
    (s.setNoteTo l t).restarts = s.restarts := by cases l <;> rfl
@[simp] theorem State.setNoteTo_lastPolled (l : Link) (t : Option (List Byte)) :
    (s.setNoteTo l t).lastPolled = s.lastPolled := by cases l <;> rfl
@[simp] theorem State.setNoteTo_transaction (l : Link) (t : Option (List Byte)) :
    (s.setNoteTo l t).transaction = s.transaction := by cases l <;> rfl
@[simp] theorem State.setNoteTo_plantLine (l : Link) (t : Option (List Byte)) :
    (s.setNoteTo l t).plantLine = s.plantLine := by cases l <;> rfl
@[simp] theorem State.setNoteTo_inReset (l : Link) (t : Option (List Byte)) :
    (s.setNoteTo l t).inReset = s.inReset := by cases l <;> rfl
@[simp] theorem State.setNoteTo_pending (l : Link) (t : Option (List Byte)) :
    (s.setNoteTo l t).pending = s.pending := by cases l <;> rfl
@[simp] theorem State.noteTo_setNoteTo (l : Link) (t : Option (List Byte)) :
    (s.setNoteTo l t).noteTo l = t := by cases l <;> rfl
@[simp] theorem State.noteTo_setNoteTo_other (l : Link) (t : Option (List Byte)) :
    (s.setNoteTo l t).noteTo (otherLink l) = s.noteTo (otherLink l) := by cases l <;> rfl

end Sys2Proof.Machine
end

