-- ==== Sys2Proof/Laws/Basics.lean ====
section
/-! SUPPORT. Laws of tables, of lists of records and of folds. -/

namespace Sys2Proof.Machine

/-- A field that every step of a fold keeps is kept by the fold. -/
theorem foldl_keeps {α β γ : Type} (g : β → γ) (f : β → α → β) (h : ∀ b a, g (f b a) = g b) :
    ∀ (l : List α) (b : β), g (l.foldl f b) = g b
  | [], _ => rfl
  | a :: l, b => by rw [List.foldl_cons, foldl_keeps g f h l, h]

/-- A property that every step of a fold keeps is kept by the fold. -/
theorem foldl_invariant {α β : Type} (P : β → Prop) (f : β → α → β) (h : ∀ b a, P b → P (f b a)) :
    ∀ (l : List α) (b : β), P b → P (l.foldl f b)
  | [], _, hb => hb
  | a :: l, b, hb => foldl_invariant P f h l (f b a) (h b a hb)

variable {α : Type} {n : Nat}

@[simp] theorem tmod_same (t : Table α n) (i : Fin n) (f : α → α) : (tmod t i f)[i] = f t[i] := by
  simp [tmod]

@[simp] theorem tmod_same_val (t : Table α n) (i : Fin n) (f : α → α) :
    (tmod t i f)[i.val] = f t[i] := by
  simp [tmod]

theorem tmod_ne (t : Table α n) {i j : Fin n} (f : α → α) (h : i ≠ j) : (tmod t i f)[j] = t[j] := by
  have : i.val ≠ j.val := fun e => h (Fin.ext e)
  simp [tmod, this]

/-- What a table holds after one record is changed. -/
theorem tmod_get (t : Table α n) (i j : Fin n) (f : α → α) :
    (tmod t i f)[j] = if i = j then f t[j] else t[j] := by
  by_cases h : i = j
  · subst h; simp
  · simp [tmod_ne t f h, h]

end Sys2Proof.Machine
end

