-- ==== Sys2Proof/Laws/AlarmFrames.lean ====
section
/-! SUPPORT. What the operations of notices and alarms leave unchanged: one frame lemma for each. -/

namespace Sys2Proof.Machine

variable {k : Dock}

@[simp] theorem Dock.notifyLink_frame (l : Link) (n : Notice) :
    (k.notifyLink l n).commissioning = k.commissioning ∧
    (k.notifyLink l n).running = k.running ∧
    (k.notifyLink l n).offset = k.offset ∧
    (k.notifyLink l n).zones = k.zones ∧
    (k.notifyLink l n).probes = k.probes ∧
    (k.notifyLink l n).classes = k.classes ∧
    (k.notifyLink l n).pallets = k.pallets ∧
    (k.notifyLink l n).lanes = k.lanes ∧
    (k.notifyLink l n).rings = k.rings ∧
    (k.notifyLink l n).doors = k.doors ∧
    (k.notifyLink l n).defrosts = k.defrosts ∧
    (k.notifyLink l n).slotLimit = k.slotLimit ∧
    (k.notifyLink l n).flights = k.flights ∧
    (k.notifyLink l n).channels = k.channels ∧
    (k.notifyLink l n).plantStop = k.plantStop ∧
    (k.notifyLink l n).alarms = k.alarms ∧
    (k.notifyLink l n).overflow = k.overflow ∧
    (k.notifyLink l n).mask = k.mask ∧
    (k.notifyLink l n).alarmLine = k.alarmLine ∧
    (k.notifyLink l n).nodes = k.nodes := by
  cases l <;> simp [Dock.notifyLink]

@[simp] theorem Dock.notify_frame (n : Notice) :
    (k.notify n).commissioning = k.commissioning ∧
    (k.notify n).running = k.running ∧
    (k.notify n).offset = k.offset ∧
    (k.notify n).zones = k.zones ∧
    (k.notify n).probes = k.probes ∧
    (k.notify n).classes = k.classes ∧
    (k.notify n).pallets = k.pallets ∧
    (k.notify n).lanes = k.lanes ∧
    (k.notify n).rings = k.rings ∧
    (k.notify n).doors = k.doors ∧
    (k.notify n).defrosts = k.defrosts ∧
    (k.notify n).slotLimit = k.slotLimit ∧
    (k.notify n).flights = k.flights ∧
    (k.notify n).channels = k.channels ∧
    (k.notify n).plantStop = k.plantStop ∧
    (k.notify n).alarms = k.alarms ∧
    (k.notify n).overflow = k.overflow ∧
    (k.notify n).mask = k.mask ∧
    (k.notify n).alarmLine = k.alarmLine ∧
    (k.notify n).nodes = k.nodes := by
  simp [Dock.notify]

@[simp] theorem Dock.tick_frame :
    (k.tick).commissioning = k.commissioning ∧
    (k.tick).offset = k.offset ∧
    (k.tick).zones = k.zones ∧
    (k.tick).probes = k.probes ∧
    (k.tick).classes = k.classes ∧
    (k.tick).pallets = k.pallets ∧
    (k.tick).lanes = k.lanes ∧
    (k.tick).rings = k.rings ∧
    (k.tick).doors = k.doors ∧
    (k.tick).defrosts = k.defrosts ∧
    (k.tick).slotLimit = k.slotLimit ∧
    (k.tick).flights = k.flights ∧
    (k.tick).channels = k.channels ∧
    (k.tick).plantStop = k.plantStop ∧
    (k.tick).alarms = k.alarms ∧
    (k.tick).overflow = k.overflow ∧
    (k.tick).mask = k.mask ∧
    (k.tick).alarmLine = k.alarmLine ∧
    (k.tick).nodes = k.nodes ∧
    (k.tick).siteNotices = k.siteNotices ∧
    (k.tick).floorNotices = k.floorNotices := by
  simp [Dock.tick]

@[simp] theorem Dock.evalLine_frame :
    (k.evalLine).commissioning = k.commissioning ∧
    (k.evalLine).running = k.running ∧
    (k.evalLine).offset = k.offset ∧
    (k.evalLine).zones = k.zones ∧
    (k.evalLine).probes = k.probes ∧
    (k.evalLine).classes = k.classes ∧
    (k.evalLine).pallets = k.pallets ∧
    (k.evalLine).lanes = k.lanes ∧
    (k.evalLine).rings = k.rings ∧
    (k.evalLine).doors = k.doors ∧
    (k.evalLine).defrosts = k.defrosts ∧
    (k.evalLine).slotLimit = k.slotLimit ∧
    (k.evalLine).flights = k.flights ∧
    (k.evalLine).channels = k.channels ∧
    (k.evalLine).plantStop = k.plantStop ∧
    (k.evalLine).alarms = k.alarms ∧
    (k.evalLine).overflow = k.overflow ∧
    (k.evalLine).mask = k.mask ∧
    (k.evalLine).nodes = k.nodes ∧
    (k.evalLine).siteNotices = k.siteNotices ∧
    (k.evalLine).floorNotices = k.floorNotices := by
  simp [Dock.evalLine]

@[simp] theorem Dock.alarmNotice_frame (e : AlarmEntry) (ch : AlarmChange) (st : Option AlarmState) (by_ : Option Link) :
    (k.alarmNotice e ch st by_).commissioning = k.commissioning ∧
    (k.alarmNotice e ch st by_).running = k.running ∧
    (k.alarmNotice e ch st by_).offset = k.offset ∧
    (k.alarmNotice e ch st by_).zones = k.zones ∧
    (k.alarmNotice e ch st by_).probes = k.probes ∧
    (k.alarmNotice e ch st by_).classes = k.classes ∧
    (k.alarmNotice e ch st by_).pallets = k.pallets ∧
    (k.alarmNotice e ch st by_).lanes = k.lanes ∧
    (k.alarmNotice e ch st by_).rings = k.rings ∧
    (k.alarmNotice e ch st by_).doors = k.doors ∧
    (k.alarmNotice e ch st by_).defrosts = k.defrosts ∧
    (k.alarmNotice e ch st by_).slotLimit = k.slotLimit ∧
    (k.alarmNotice e ch st by_).flights = k.flights ∧
    (k.alarmNotice e ch st by_).channels = k.channels ∧
    (k.alarmNotice e ch st by_).plantStop = k.plantStop ∧
    (k.alarmNotice e ch st by_).alarms = k.alarms ∧
    (k.alarmNotice e ch st by_).overflow = k.overflow ∧
    (k.alarmNotice e ch st by_).mask = k.mask ∧
    (k.alarmNotice e ch st by_).alarmLine = k.alarmLine ∧
    (k.alarmNotice e ch st by_).nodes = k.nodes := by
  simp only [Dock.alarmNotice]; (repeat' split) <;> simp

@[simp] theorem Dock.putEntry_frame (e : AlarmEntry) :
    (k.putEntry e).commissioning = k.commissioning ∧
    (k.putEntry e).running = k.running ∧
    (k.putEntry e).offset = k.offset ∧
    (k.putEntry e).zones = k.zones ∧
    (k.putEntry e).probes = k.probes ∧
    (k.putEntry e).classes = k.classes ∧
    (k.putEntry e).pallets = k.pallets ∧
    (k.putEntry e).lanes = k.lanes ∧
    (k.putEntry e).rings = k.rings ∧
    (k.putEntry e).doors = k.doors ∧
    (k.putEntry e).defrosts = k.defrosts ∧
    (k.putEntry e).slotLimit = k.slotLimit ∧
    (k.putEntry e).flights = k.flights ∧
    (k.putEntry e).channels = k.channels ∧
    (k.putEntry e).plantStop = k.plantStop ∧
    (k.putEntry e).overflow = k.overflow ∧
    (k.putEntry e).mask = k.mask ∧
    (k.putEntry e).alarmLine = k.alarmLine ∧
    (k.putEntry e).nodes = k.nodes ∧
    (k.putEntry e).siteNotices = k.siteNotices ∧
    (k.putEntry e).floorNotices = k.floorNotices := by
  simp [Dock.putEntry]

@[simp] theorem Dock.dropEntry_frame (e : AlarmEntry) :
    (k.dropEntry e).commissioning = k.commissioning ∧
    (k.dropEntry e).running = k.running ∧
    (k.dropEntry e).offset = k.offset ∧
    (k.dropEntry e).zones = k.zones ∧
    (k.dropEntry e).probes = k.probes ∧
    (k.dropEntry e).classes = k.classes ∧
    (k.dropEntry e).pallets = k.pallets ∧
    (k.dropEntry e).lanes = k.lanes ∧
    (k.dropEntry e).rings = k.rings ∧
    (k.dropEntry e).doors = k.doors ∧
    (k.dropEntry e).defrosts = k.defrosts ∧
    (k.dropEntry e).slotLimit = k.slotLimit ∧
    (k.dropEntry e).flights = k.flights ∧
    (k.dropEntry e).channels = k.channels ∧
    (k.dropEntry e).plantStop = k.plantStop ∧
    (k.dropEntry e).overflow = k.overflow ∧
    (k.dropEntry e).mask = k.mask ∧
    (k.dropEntry e).alarmLine = k.alarmLine ∧
    (k.dropEntry e).nodes = k.nodes ∧
    (k.dropEntry e).siteNotices = k.siteNotices ∧
    (k.dropEntry e).floorNotices = k.floorNotices := by
  simp [Dock.dropEntry]

@[simp] theorem Dock.raiseOverflow_frame :
    (k.raiseOverflow).commissioning = k.commissioning ∧
    (k.raiseOverflow).running = k.running ∧
    (k.raiseOverflow).offset = k.offset ∧
    (k.raiseOverflow).zones = k.zones ∧
    (k.raiseOverflow).probes = k.probes ∧
    (k.raiseOverflow).classes = k.classes ∧
    (k.raiseOverflow).pallets = k.pallets ∧
    (k.raiseOverflow).lanes = k.lanes ∧
    (k.raiseOverflow).rings = k.rings ∧
    (k.raiseOverflow).doors = k.doors ∧
    (k.raiseOverflow).defrosts = k.defrosts ∧
    (k.raiseOverflow).slotLimit = k.slotLimit ∧
    (k.raiseOverflow).flights = k.flights ∧
    (k.raiseOverflow).channels = k.channels ∧
    (k.raiseOverflow).plantStop = k.plantStop ∧
    (k.raiseOverflow).alarms = k.alarms ∧
    (k.raiseOverflow).mask = k.mask ∧
    (k.raiseOverflow).nodes = k.nodes := by
  simp only [Dock.raiseOverflow]; (repeat' split) <;> simp

@[simp] theorem Dock.clearOverflow_frame :
    (k.clearOverflow).commissioning = k.commissioning ∧
    (k.clearOverflow).running = k.running ∧
    (k.clearOverflow).offset = k.offset ∧
    (k.clearOverflow).zones = k.zones ∧
    (k.clearOverflow).probes = k.probes ∧
    (k.clearOverflow).classes = k.classes ∧
    (k.clearOverflow).pallets = k.pallets ∧
    (k.clearOverflow).lanes = k.lanes ∧
    (k.clearOverflow).rings = k.rings ∧
    (k.clearOverflow).doors = k.doors ∧
    (k.clearOverflow).defrosts = k.defrosts ∧
    (k.clearOverflow).slotLimit = k.slotLimit ∧
    (k.clearOverflow).flights = k.flights ∧
    (k.clearOverflow).channels = k.channels ∧
    (k.clearOverflow).plantStop = k.plantStop ∧
    (k.clearOverflow).alarms = k.alarms ∧
    (k.clearOverflow).mask = k.mask ∧
    (k.clearOverflow).nodes = k.nodes := by
  simp only [Dock.clearOverflow]; (repeat' split) <;> simp

@[simp] theorem Dock.raise_frame (a : AlarmKind) (subj : Subject) :
    (k.raise a subj).commissioning = k.commissioning ∧
    (k.raise a subj).running = k.running ∧
    (k.raise a subj).offset = k.offset ∧
    (k.raise a subj).zones = k.zones ∧
    (k.raise a subj).probes = k.probes ∧
    (k.raise a subj).classes = k.classes ∧
    (k.raise a subj).pallets = k.pallets ∧
    (k.raise a subj).lanes = k.lanes ∧
    (k.raise a subj).rings = k.rings ∧
    (k.raise a subj).doors = k.doors ∧
    (k.raise a subj).defrosts = k.defrosts ∧
    (k.raise a subj).slotLimit = k.slotLimit ∧
    (k.raise a subj).flights = k.flights ∧
    (k.raise a subj).channels = k.channels ∧
    (k.raise a subj).plantStop = k.plantStop ∧
    (k.raise a subj).mask = k.mask ∧
    (k.raise a subj).nodes = k.nodes := by
  simp only [Dock.raise]; (repeat' split) <;> simp

@[simp] theorem Dock.clearCondition_frame (a : AlarmKind) (subj : Subject) :
    (k.clearCondition a subj).commissioning = k.commissioning ∧
    (k.clearCondition a subj).running = k.running ∧
    (k.clearCondition a subj).offset = k.offset ∧
    (k.clearCondition a subj).zones = k.zones ∧
    (k.clearCondition a subj).probes = k.probes ∧
    (k.clearCondition a subj).classes = k.classes ∧
    (k.clearCondition a subj).pallets = k.pallets ∧
    (k.clearCondition a subj).lanes = k.lanes ∧
    (k.clearCondition a subj).rings = k.rings ∧
    (k.clearCondition a subj).doors = k.doors ∧
    (k.clearCondition a subj).defrosts = k.defrosts ∧
    (k.clearCondition a subj).slotLimit = k.slotLimit ∧
    (k.clearCondition a subj).flights = k.flights ∧
    (k.clearCondition a subj).channels = k.channels ∧
    (k.clearCondition a subj).plantStop = k.plantStop ∧
    (k.clearCondition a subj).mask = k.mask ∧
    (k.clearCondition a subj).nodes = k.nodes := by
  simp only [Dock.clearCondition]; (repeat' split) <;> simp

@[simp] theorem Dock.ackEntry_frame (l : Link) (e : AlarmEntry) :
    (k.ackEntry l e).commissioning = k.commissioning ∧
    (k.ackEntry l e).running = k.running ∧
    (k.ackEntry l e).offset = k.offset ∧
    (k.ackEntry l e).zones = k.zones ∧
    (k.ackEntry l e).probes = k.probes ∧
    (k.ackEntry l e).classes = k.classes ∧
    (k.ackEntry l e).pallets = k.pallets ∧
    (k.ackEntry l e).lanes = k.lanes ∧
    (k.ackEntry l e).rings = k.rings ∧
    (k.ackEntry l e).doors = k.doors ∧
    (k.ackEntry l e).defrosts = k.defrosts ∧
    (k.ackEntry l e).slotLimit = k.slotLimit ∧
    (k.ackEntry l e).flights = k.flights ∧
    (k.ackEntry l e).channels = k.channels ∧
    (k.ackEntry l e).plantStop = k.plantStop ∧
    (k.ackEntry l e).mask = k.mask ∧
    (k.ackEntry l e).nodes = k.nodes := by
  simp only [Dock.ackEntry]; (repeat' split) <;> simp

@[simp] theorem Dock.ackOverflow_frame (l : Link) :
    (k.ackOverflow l).commissioning = k.commissioning ∧
    (k.ackOverflow l).running = k.running ∧
    (k.ackOverflow l).offset = k.offset ∧
    (k.ackOverflow l).zones = k.zones ∧
    (k.ackOverflow l).probes = k.probes ∧
    (k.ackOverflow l).classes = k.classes ∧
    (k.ackOverflow l).pallets = k.pallets ∧
    (k.ackOverflow l).lanes = k.lanes ∧
    (k.ackOverflow l).rings = k.rings ∧
    (k.ackOverflow l).doors = k.doors ∧
    (k.ackOverflow l).defrosts = k.defrosts ∧
    (k.ackOverflow l).slotLimit = k.slotLimit ∧
    (k.ackOverflow l).flights = k.flights ∧
    (k.ackOverflow l).channels = k.channels ∧
    (k.ackOverflow l).plantStop = k.plantStop ∧
    (k.ackOverflow l).alarms = k.alarms ∧
    (k.ackOverflow l).mask = k.mask ∧
    (k.ackOverflow l).nodes = k.nodes := by
  simp only [Dock.ackOverflow]; (repeat' split) <;> simp

@[simp] theorem Dock.ackEvery_frame (l : Link) :
    (k.ackEvery l).commissioning = k.commissioning ∧
    (k.ackEvery l).running = k.running ∧
    (k.ackEvery l).offset = k.offset ∧
    (k.ackEvery l).zones = k.zones ∧
    (k.ackEvery l).probes = k.probes ∧
    (k.ackEvery l).classes = k.classes ∧
    (k.ackEvery l).pallets = k.pallets ∧
    (k.ackEvery l).lanes = k.lanes ∧
    (k.ackEvery l).rings = k.rings ∧
    (k.ackEvery l).doors = k.doors ∧
    (k.ackEvery l).defrosts = k.defrosts ∧
    (k.ackEvery l).slotLimit = k.slotLimit ∧
    (k.ackEvery l).flights = k.flights ∧
    (k.ackEvery l).channels = k.channels ∧
    (k.ackEvery l).plantStop = k.plantStop ∧
    (k.ackEvery l).mask = k.mask ∧
    (k.ackEvery l).nodes = k.nodes := by
  simp only [Dock.ackEvery, Dock.ackOverflow_frame]
  exact ⟨foldl_keeps Dock.commissioning _ (fun k a => by simp) _ _,
    foldl_keeps Dock.running _ (fun k a => by simp) _ _,
    foldl_keeps Dock.offset _ (fun k a => by simp) _ _,
    foldl_keeps Dock.zones _ (fun k a => by simp) _ _,
    foldl_keeps Dock.probes _ (fun k a => by simp) _ _,
    foldl_keeps Dock.classes _ (fun k a => by simp) _ _,
    foldl_keeps Dock.pallets _ (fun k a => by simp) _ _,
    foldl_keeps Dock.lanes _ (fun k a => by simp) _ _,
    foldl_keeps Dock.rings _ (fun k a => by simp) _ _,
    foldl_keeps Dock.doors _ (fun k a => by simp) _ _,
    foldl_keeps Dock.defrosts _ (fun k a => by simp) _ _,
    foldl_keeps Dock.slotLimit _ (fun k a => by simp) _ _,
    foldl_keeps Dock.flights _ (fun k a => by simp) _ _,
    foldl_keeps Dock.channels _ (fun k a => by simp) _ _,
    foldl_keeps Dock.plantStop _ (fun k a => by simp) _ _,
    foldl_keeps Dock.mask _ (fun k a => by simp) _ _,
    foldl_keeps Dock.nodes _ (fun k a => by simp) _ _⟩

end Sys2Proof.Machine
end

