-- ==== Sys2Proof/Laws/ChannelFrames.lean ====
section
/-! SUPPORT. What the operations of output channels leave unchanged, one frame lemma for each, and what the
feedback check makes of an UNKNOWN feedback, of a loss and of an expiry. -/

namespace Sys2Proof.Machine

variable {k : Dock}

@[simp] theorem Dock.compareChannel_frame (c : Fin 48) (w : Bool) :
    (k.compareChannel c w).commissioning = k.commissioning ∧
    (k.compareChannel c w).running = k.running ∧
    (k.compareChannel c w).offset = k.offset ∧
    (k.compareChannel c w).zones = k.zones ∧
    (k.compareChannel c w).probes = k.probes ∧
    (k.compareChannel c w).classes = k.classes ∧
    (k.compareChannel c w).pallets = k.pallets ∧
    (k.compareChannel c w).lanes = k.lanes ∧
    (k.compareChannel c w).rings = k.rings ∧
    (k.compareChannel c w).doors = k.doors ∧
    (k.compareChannel c w).defrosts = k.defrosts ∧
    (k.compareChannel c w).slotLimit = k.slotLimit ∧
    (k.compareChannel c w).flights = k.flights ∧
    (k.compareChannel c w).plantStop = k.plantStop ∧
    (k.compareChannel c w).mask = k.mask ∧
    (k.compareChannel c w).nodes = k.nodes := by
  simp only [Dock.compareChannel]; (repeat' split) <;> simp

@[simp] theorem Dock.recompute_frame (c : Fin 48) :
    (k.recompute c).commissioning = k.commissioning ∧
    (k.recompute c).running = k.running ∧
    (k.recompute c).offset = k.offset ∧
    (k.recompute c).zones = k.zones ∧
    (k.recompute c).probes = k.probes ∧
    (k.recompute c).classes = k.classes ∧
    (k.recompute c).pallets = k.pallets ∧
    (k.recompute c).lanes = k.lanes ∧
    (k.recompute c).rings = k.rings ∧
    (k.recompute c).doors = k.doors ∧
    (k.recompute c).defrosts = k.defrosts ∧
    (k.recompute c).slotLimit = k.slotLimit ∧
    (k.recompute c).flights = k.flights ∧
    (k.recompute c).plantStop = k.plantStop ∧
    (k.recompute c).mask = k.mask ∧
    (k.recompute c).nodes = k.nodes := by
  simp only [Dock.recompute]; (repeat' split) <;> simp

@[simp] theorem Dock.command_frame (c : Fin 48) (lv : Level) :
    (k.command c lv).commissioning = k.commissioning ∧
    (k.command c lv).running = k.running ∧
    (k.command c lv).offset = k.offset ∧
    (k.command c lv).zones = k.zones ∧
    (k.command c lv).probes = k.probes ∧
    (k.command c lv).classes = k.classes ∧
    (k.command c lv).pallets = k.pallets ∧
    (k.command c lv).lanes = k.lanes ∧
    (k.command c lv).rings = k.rings ∧
    (k.command c lv).doors = k.doors ∧
    (k.command c lv).defrosts = k.defrosts ∧
    (k.command c lv).slotLimit = k.slotLimit ∧
    (k.command c lv).flights = k.flights ∧
    (k.command c lv).plantStop = k.plantStop ∧
    (k.command c lv).mask = k.mask ∧
    (k.command c lv).nodes = k.nodes := by
  simp only [Dock.command]; (repeat' split) <;> simp

@[simp] theorem Dock.setByHand_frame (c : Fin 48) (lv : Level) :
    (k.setByHand c lv).commissioning = k.commissioning ∧
    (k.setByHand c lv).running = k.running ∧
    (k.setByHand c lv).offset = k.offset ∧
    (k.setByHand c lv).zones = k.zones ∧
    (k.setByHand c lv).probes = k.probes ∧
    (k.setByHand c lv).classes = k.classes ∧
    (k.setByHand c lv).pallets = k.pallets ∧
    (k.setByHand c lv).lanes = k.lanes ∧
    (k.setByHand c lv).rings = k.rings ∧
    (k.setByHand c lv).doors = k.doors ∧
    (k.setByHand c lv).defrosts = k.defrosts ∧
    (k.setByHand c lv).slotLimit = k.slotLimit ∧
    (k.setByHand c lv).flights = k.flights ∧
    (k.setByHand c lv).plantStop = k.plantStop ∧
    (k.setByHand c lv).mask = k.mask ∧
    (k.setByHand c lv).nodes = k.nodes := by
  simp [Dock.setByHand]

@[simp] theorem Dock.returnChannel_frame (c : Fin 48) :
    (k.returnChannel c).commissioning = k.commissioning ∧
    (k.returnChannel c).running = k.running ∧
    (k.returnChannel c).offset = k.offset ∧
    (k.returnChannel c).zones = k.zones ∧
    (k.returnChannel c).probes = k.probes ∧
    (k.returnChannel c).classes = k.classes ∧
    (k.returnChannel c).pallets = k.pallets ∧
    (k.returnChannel c).lanes = k.lanes ∧
    (k.returnChannel c).rings = k.rings ∧
    (k.returnChannel c).doors = k.doors ∧
    (k.returnChannel c).defrosts = k.defrosts ∧
    (k.returnChannel c).slotLimit = k.slotLimit ∧
    (k.returnChannel c).flights = k.flights ∧
    (k.returnChannel c).plantStop = k.plantStop ∧
    (k.returnChannel c).mask = k.mask ∧
    (k.returnChannel c).nodes = k.nodes := by
  simp [Dock.returnChannel]

@[simp] theorem Dock.returnManual_frame (c : Fin 48) :
    (k.returnManual c).commissioning = k.commissioning ∧
    (k.returnManual c).running = k.running ∧
    (k.returnManual c).offset = k.offset ∧
    (k.returnManual c).zones = k.zones ∧
    (k.returnManual c).probes = k.probes ∧
    (k.returnManual c).classes = k.classes ∧
    (k.returnManual c).pallets = k.pallets ∧
    (k.returnManual c).lanes = k.lanes ∧
    (k.returnManual c).rings = k.rings ∧
    (k.returnManual c).doors = k.doors ∧
    (k.returnManual c).defrosts = k.defrosts ∧
    (k.returnManual c).slotLimit = k.slotLimit ∧
    (k.returnManual c).flights = k.flights ∧
    (k.returnManual c).plantStop = k.plantStop ∧
    (k.returnManual c).mask = k.mask ∧
    (k.returnManual c).nodes = k.nodes := by
  simp only [Dock.returnManual]; (repeat' split) <;> simp

@[simp] theorem Dock.writeFeedback_frame (c : Fin 48) (fb : Option Level) :
    (k.writeFeedback c fb).commissioning = k.commissioning ∧
    (k.writeFeedback c fb).running = k.running ∧
    (k.writeFeedback c fb).offset = k.offset ∧
    (k.writeFeedback c fb).zones = k.zones ∧
    (k.writeFeedback c fb).probes = k.probes ∧
    (k.writeFeedback c fb).classes = k.classes ∧
    (k.writeFeedback c fb).pallets = k.pallets ∧
    (k.writeFeedback c fb).lanes = k.lanes ∧
    (k.writeFeedback c fb).rings = k.rings ∧
    (k.writeFeedback c fb).doors = k.doors ∧
    (k.writeFeedback c fb).defrosts = k.defrosts ∧
    (k.writeFeedback c fb).slotLimit = k.slotLimit ∧
    (k.writeFeedback c fb).flights = k.flights ∧
    (k.writeFeedback c fb).plantStop = k.plantStop ∧
    (k.writeFeedback c fb).mask = k.mask ∧
    (k.writeFeedback c fb).nodes = k.nodes := by
  simp [Dock.writeFeedback]

@[simp] theorem Dock.suspendCheck_frame (c : Fin 48) :
    (k.suspendCheck c).commissioning = k.commissioning ∧
    (k.suspendCheck c).running = k.running ∧
    (k.suspendCheck c).offset = k.offset ∧
    (k.suspendCheck c).zones = k.zones ∧
    (k.suspendCheck c).probes = k.probes ∧
    (k.suspendCheck c).classes = k.classes ∧
    (k.suspendCheck c).pallets = k.pallets ∧
    (k.suspendCheck c).lanes = k.lanes ∧
    (k.suspendCheck c).rings = k.rings ∧
    (k.suspendCheck c).doors = k.doors ∧
    (k.suspendCheck c).defrosts = k.defrosts ∧
    (k.suspendCheck c).slotLimit = k.slotLimit ∧
    (k.suspendCheck c).flights = k.flights ∧
    (k.suspendCheck c).plantStop = k.plantStop ∧
    (k.suspendCheck c).alarms = k.alarms ∧
    (k.suspendCheck c).overflow = k.overflow ∧
    (k.suspendCheck c).mask = k.mask ∧
    (k.suspendCheck c).alarmLine = k.alarmLine ∧
    (k.suspendCheck c).nodes = k.nodes ∧
    (k.suspendCheck c).siteNotices = k.siteNotices ∧
    (k.suspendCheck c).floorNotices = k.floorNotices := by
  simp [Dock.suspendCheck]

@[simp] theorem Dock.mismatchExpiry_frame (c : Fin 48) :
    (k.mismatchExpiry c).commissioning = k.commissioning ∧
    (k.mismatchExpiry c).running = k.running ∧
    (k.mismatchExpiry c).offset = k.offset ∧
    (k.mismatchExpiry c).zones = k.zones ∧
    (k.mismatchExpiry c).probes = k.probes ∧
    (k.mismatchExpiry c).classes = k.classes ∧
    (k.mismatchExpiry c).pallets = k.pallets ∧
    (k.mismatchExpiry c).lanes = k.lanes ∧
    (k.mismatchExpiry c).rings = k.rings ∧
    (k.mismatchExpiry c).doors = k.doors ∧
    (k.mismatchExpiry c).defrosts = k.defrosts ∧
    (k.mismatchExpiry c).slotLimit = k.slotLimit ∧
    (k.mismatchExpiry c).flights = k.flights ∧
    (k.mismatchExpiry c).plantStop = k.plantStop ∧
    (k.mismatchExpiry c).mask = k.mask ∧
    (k.mismatchExpiry c).nodes = k.nodes := by
  simp only [Dock.mismatchExpiry]; (repeat' split) <;> simp

@[simp] theorem Dock.setPlantStop_frame (b : Bool) :
    (k.setPlantStop b).commissioning = k.commissioning ∧
    (k.setPlantStop b).running = k.running ∧
    (k.setPlantStop b).offset = k.offset ∧
    (k.setPlantStop b).zones = k.zones ∧
    (k.setPlantStop b).probes = k.probes ∧
    (k.setPlantStop b).classes = k.classes ∧
    (k.setPlantStop b).pallets = k.pallets ∧
    (k.setPlantStop b).lanes = k.lanes ∧
    (k.setPlantStop b).rings = k.rings ∧
    (k.setPlantStop b).doors = k.doors ∧
    (k.setPlantStop b).defrosts = k.defrosts ∧
    (k.setPlantStop b).slotLimit = k.slotLimit ∧
    (k.setPlantStop b).flights = k.flights ∧
    (k.setPlantStop b).mask = k.mask ∧
    (k.setPlantStop b).nodes = k.nodes := by
  simp only [Dock.setPlantStop]
  exact ⟨foldl_keeps Dock.commissioning _ (fun k a => by simp) _ _,
    foldl_keeps Dock.running _ (fun k a => by simp) _ _,
    foldl_keeps Dock.offset _ (fun k a => by simp) _ _,
    foldl_keeps Dock.zones _ (fun k a => by simp) _ _,
    foldl_keeps Dock.probes _ (fun k a => by simp) _ _,
    foldl_keeps Dock.classes _ (fun k a => by simp) _ _,
    foldl_keeps Dock.pallets _ (fun k a => by simp) _ _,
    foldl_keeps Dock.lanes _ (fun k a => by simp) _ _,
    foldl_keeps Dock.rings _ (fun k a => by simp) _ _,
    foldl_keeps Dock.doors _ (fun k a => by simp) _ _,
    foldl_keeps Dock.defrosts _ (fun k a => by simp) _ _,
    foldl_keeps Dock.slotLimit _ (fun k a => by simp) _ _,
    foldl_keeps Dock.flights _ (fun k a => by simp) _ _,
    foldl_keeps Dock.mask _ (fun k a => by simp) _ _,
    foldl_keeps Dock.nodes _ (fun k a => by simp) _ _⟩

/-- R140: a comparison with feedback UNKNOWN is not made. -/
@[simp] theorem Dock.compareChannel_unknown {c : Fin 48} (w : Bool) (h : (k.channels[c]).feedback = none) :
    k.compareChannel c w = k := by
  simp only [Dock.compareChannel]; rw [h]

/-- R135, R142: a change of effective level with feedback UNKNOWN writes the level alone. -/
theorem Dock.recompute_unknown {c : Fin 48} (h : (k.channels[c]).feedback = none) :
    let eff := effectiveLevel (channelKind c) (k.channels[c]).latch (k.channels[c]).armed k.plantStop
    k.recompute c = k ∨ k.recompute c = k.modChannel c ({ · with effective := eff }) := by
  simp only [Dock.recompute]
  split
  · exact .inl rfl
  · exact .inr (Dock.compareChannel_unknown false (by simpa using h))

/-- R142: what a loss leaves in a channel. -/
theorem Dock.suspendCheck_channel (c : Fin 48) :
    (k.suspendCheck c).channels[c] = { k.channels[c] with
      feedback := none
      check := match (k.channels[c]).check with
        | .raised kind => .raised kind
        | _ => .suspended } := by
  exact tmod_same k.channels c _

/-- R141: a mismatch timer that has run out raises the alarm of the disagreement as it stands. -/
theorem Dock.mismatchExpiry_due {c : Fin 48} {start : Nat} (h : (k.channels[c]).check = .timing start)
    (hd : start + (channelKind c).grace ≤ k.running) :
    k.mismatchExpiry c =
      let kind := disagreement (channelKind c) (k.channels[c]).feedback (k.channels[c]).effective
      (k.modChannel c ({ · with check := .raised kind })).raise kind.alarm (.channel c) := by
  simp only [Dock.mismatchExpiry]; rw [h]; simp [Dock.due, hd]

end Sys2Proof.Machine
end

