-- ==== Sys2Proof/Laws/DefrostFrames.lean ====
section
/-! SUPPORT. What the operations of watches and the defrost sequence leave unchanged: one frame lemma for each. -/

namespace Sys2Proof.Machine

variable {k : Dock}

@[simp] theorem Dock.warmCompare_frame (z : Fin 8) :
    (k.warmCompare z).commissioning = k.commissioning ∧
    (k.warmCompare z).running = k.running ∧
    (k.warmCompare z).offset = k.offset ∧
    (k.warmCompare z).probes = k.probes ∧
    (k.warmCompare z).classes = k.classes ∧
    (k.warmCompare z).pallets = k.pallets ∧
    (k.warmCompare z).lanes = k.lanes ∧
    (k.warmCompare z).rings = k.rings ∧
    (k.warmCompare z).doors = k.doors ∧
    (k.warmCompare z).defrosts = k.defrosts ∧
    (k.warmCompare z).slotLimit = k.slotLimit ∧
    (k.warmCompare z).flights = k.flights ∧
    (k.warmCompare z).channels = k.channels ∧
    (k.warmCompare z).plantStop = k.plantStop ∧
    (k.warmCompare z).mask = k.mask ∧
    (k.warmCompare z).nodes = k.nodes := by
  simp only [Dock.warmCompare]; (repeat' split) <;> simp

@[simp] theorem Dock.coldCompare_frame (z : Fin 8) :
    (k.coldCompare z).commissioning = k.commissioning ∧
    (k.coldCompare z).running = k.running ∧
    (k.coldCompare z).offset = k.offset ∧
    (k.coldCompare z).probes = k.probes ∧
    (k.coldCompare z).classes = k.classes ∧
    (k.coldCompare z).pallets = k.pallets ∧
    (k.coldCompare z).lanes = k.lanes ∧
    (k.coldCompare z).rings = k.rings ∧
    (k.coldCompare z).doors = k.doors ∧
    (k.coldCompare z).defrosts = k.defrosts ∧
    (k.coldCompare z).slotLimit = k.slotLimit ∧
    (k.coldCompare z).flights = k.flights ∧
    (k.coldCompare z).channels = k.channels ∧
    (k.coldCompare z).plantStop = k.plantStop ∧
    (k.coldCompare z).mask = k.mask ∧
    (k.coldCompare z).nodes = k.nodes := by
  simp only [Dock.coldCompare]; (repeat' split) <;> simp

@[simp] theorem Dock.warmExpiry_frame (z : Fin 8) :
    (k.warmExpiry z).commissioning = k.commissioning ∧
    (k.warmExpiry z).running = k.running ∧
    (k.warmExpiry z).offset = k.offset ∧
    (k.warmExpiry z).probes = k.probes ∧
    (k.warmExpiry z).classes = k.classes ∧
    (k.warmExpiry z).pallets = k.pallets ∧
    (k.warmExpiry z).lanes = k.lanes ∧
    (k.warmExpiry z).rings = k.rings ∧
    (k.warmExpiry z).doors = k.doors ∧
    (k.warmExpiry z).defrosts = k.defrosts ∧
    (k.warmExpiry z).slotLimit = k.slotLimit ∧
    (k.warmExpiry z).flights = k.flights ∧
    (k.warmExpiry z).channels = k.channels ∧
    (k.warmExpiry z).plantStop = k.plantStop ∧
    (k.warmExpiry z).mask = k.mask ∧
    (k.warmExpiry z).nodes = k.nodes := by
  simp only [Dock.warmExpiry]; (repeat' split) <;> simp

@[simp] theorem Dock.coldExpiry_frame (z : Fin 8) :
    (k.coldExpiry z).commissioning = k.commissioning ∧
    (k.coldExpiry z).running = k.running ∧
    (k.coldExpiry z).offset = k.offset ∧
    (k.coldExpiry z).probes = k.probes ∧
    (k.coldExpiry z).classes = k.classes ∧
    (k.coldExpiry z).pallets = k.pallets ∧
    (k.coldExpiry z).lanes = k.lanes ∧
    (k.coldExpiry z).rings = k.rings ∧
    (k.coldExpiry z).doors = k.doors ∧
    (k.coldExpiry z).defrosts = k.defrosts ∧
    (k.coldExpiry z).slotLimit = k.slotLimit ∧
    (k.coldExpiry z).flights = k.flights ∧
    (k.coldExpiry z).channels = k.channels ∧
    (k.coldExpiry z).plantStop = k.plantStop ∧
    (k.coldExpiry z).mask = k.mask ∧
    (k.coldExpiry z).nodes = k.nodes := by
  simp only [Dock.coldExpiry]; (repeat' split) <;> simp

@[simp] theorem Dock.suspendWarm_frame (z : Fin 8) :
    (k.suspendWarm z).commissioning = k.commissioning ∧
    (k.suspendWarm z).running = k.running ∧
    (k.suspendWarm z).offset = k.offset ∧
    (k.suspendWarm z).probes = k.probes ∧
    (k.suspendWarm z).classes = k.classes ∧
    (k.suspendWarm z).pallets = k.pallets ∧
    (k.suspendWarm z).lanes = k.lanes ∧
    (k.suspendWarm z).rings = k.rings ∧
    (k.suspendWarm z).doors = k.doors ∧
    (k.suspendWarm z).defrosts = k.defrosts ∧
    (k.suspendWarm z).slotLimit = k.slotLimit ∧
    (k.suspendWarm z).flights = k.flights ∧
    (k.suspendWarm z).channels = k.channels ∧
    (k.suspendWarm z).plantStop = k.plantStop ∧
    (k.suspendWarm z).alarms = k.alarms ∧
    (k.suspendWarm z).overflow = k.overflow ∧
    (k.suspendWarm z).mask = k.mask ∧
    (k.suspendWarm z).alarmLine = k.alarmLine ∧
    (k.suspendWarm z).nodes = k.nodes ∧
    (k.suspendWarm z).siteNotices = k.siteNotices ∧
    (k.suspendWarm z).floorNotices = k.floorNotices := by
  simp only [Dock.suspendWarm]; (repeat' split) <;> simp

@[simp] theorem Dock.commandPhase_frame (z : Fin 8) :
    (k.commandPhase z).commissioning = k.commissioning ∧
    (k.commandPhase z).running = k.running ∧
    (k.commandPhase z).offset = k.offset ∧
    (k.commandPhase z).zones = k.zones ∧
    (k.commandPhase z).probes = k.probes ∧
    (k.commandPhase z).classes = k.classes ∧
    (k.commandPhase z).pallets = k.pallets ∧
    (k.commandPhase z).lanes = k.lanes ∧
    (k.commandPhase z).rings = k.rings ∧
    (k.commandPhase z).doors = k.doors ∧
    (k.commandPhase z).defrosts = k.defrosts ∧
    (k.commandPhase z).slotLimit = k.slotLimit ∧
    (k.commandPhase z).flights = k.flights ∧
    (k.commandPhase z).plantStop = k.plantStop ∧
    (k.commandPhase z).mask = k.mask ∧
    (k.commandPhase z).nodes = k.nodes := by
  simp [Dock.commandPhase]

@[simp] theorem Dock.phaseNotice_frame (z : Fin 8) (old : Phase) :
    (k.phaseNotice z old).commissioning = k.commissioning ∧
    (k.phaseNotice z old).running = k.running ∧
    (k.phaseNotice z old).offset = k.offset ∧
    (k.phaseNotice z old).zones = k.zones ∧
    (k.phaseNotice z old).probes = k.probes ∧
    (k.phaseNotice z old).classes = k.classes ∧
    (k.phaseNotice z old).pallets = k.pallets ∧
    (k.phaseNotice z old).lanes = k.lanes ∧
    (k.phaseNotice z old).rings = k.rings ∧
    (k.phaseNotice z old).doors = k.doors ∧
    (k.phaseNotice z old).defrosts = k.defrosts ∧
    (k.phaseNotice z old).slotLimit = k.slotLimit ∧
    (k.phaseNotice z old).flights = k.flights ∧
    (k.phaseNotice z old).channels = k.channels ∧
    (k.phaseNotice z old).plantStop = k.plantStop ∧
    (k.phaseNotice z old).alarms = k.alarms ∧
    (k.phaseNotice z old).overflow = k.overflow ∧
    (k.phaseNotice z old).mask = k.mask ∧
    (k.phaseNotice z old).alarmLine = k.alarmLine ∧
    (k.phaseNotice z old).nodes = k.nodes := by
  simp [Dock.phaseNotice]

@[simp] theorem Dock.tellMonitor_frame (z : Fin 8) (old new : Phase) :
    (k.tellMonitor z old new).commissioning = k.commissioning ∧
    (k.tellMonitor z old new).running = k.running ∧
    (k.tellMonitor z old new).offset = k.offset ∧
    (k.tellMonitor z old new).probes = k.probes ∧
    (k.tellMonitor z old new).classes = k.classes ∧
    (k.tellMonitor z old new).pallets = k.pallets ∧
    (k.tellMonitor z old new).lanes = k.lanes ∧
    (k.tellMonitor z old new).rings = k.rings ∧
    (k.tellMonitor z old new).doors = k.doors ∧
    (k.tellMonitor z old new).defrosts = k.defrosts ∧
    (k.tellMonitor z old new).slotLimit = k.slotLimit ∧
    (k.tellMonitor z old new).flights = k.flights ∧
    (k.tellMonitor z old new).channels = k.channels ∧
    (k.tellMonitor z old new).plantStop = k.plantStop ∧
    (k.tellMonitor z old new).mask = k.mask ∧
    (k.tellMonitor z old new).nodes = k.nodes := by
  simp only [Dock.tellMonitor]; (repeat' split) <;> simp

@[simp] theorem Dock.enterPhase_frame (z : Fin 8) (ph : Phase) :
    (k.enterPhase z ph).commissioning = k.commissioning ∧
    (k.enterPhase z ph).running = k.running ∧
    (k.enterPhase z ph).offset = k.offset ∧
    (k.enterPhase z ph).probes = k.probes ∧
    (k.enterPhase z ph).classes = k.classes ∧
    (k.enterPhase z ph).pallets = k.pallets ∧
    (k.enterPhase z ph).lanes = k.lanes ∧
    (k.enterPhase z ph).rings = k.rings ∧
    (k.enterPhase z ph).doors = k.doors ∧
    (k.enterPhase z ph).slotLimit = k.slotLimit ∧
    (k.enterPhase z ph).flights = k.flights ∧
    (k.enterPhase z ph).plantStop = k.plantStop ∧
    (k.enterPhase z ph).mask = k.mask ∧
    (k.enterPhase z ph).nodes = k.nodes := by
  simp [Dock.enterPhase]

@[simp] theorem Dock.clearTest_frame (z : Fin 8) :
    (k.clearTest z).commissioning = k.commissioning ∧
    (k.clearTest z).running = k.running ∧
    (k.clearTest z).offset = k.offset ∧
    (k.clearTest z).probes = k.probes ∧
    (k.clearTest z).classes = k.classes ∧
    (k.clearTest z).pallets = k.pallets ∧
    (k.clearTest z).lanes = k.lanes ∧
    (k.clearTest z).rings = k.rings ∧
    (k.clearTest z).doors = k.doors ∧
    (k.clearTest z).slotLimit = k.slotLimit ∧
    (k.clearTest z).flights = k.flights ∧
    (k.clearTest z).plantStop = k.plantStop ∧
    (k.clearTest z).mask = k.mask ∧
    (k.clearTest z).nodes = k.nodes := by
  simp only [Dock.clearTest]; (repeat' split) <;> simp

@[simp] theorem Dock.grant_frame (z : Fin 8) :
    (k.grant z).commissioning = k.commissioning ∧
    (k.grant z).running = k.running ∧
    (k.grant z).offset = k.offset ∧
    (k.grant z).probes = k.probes ∧
    (k.grant z).classes = k.classes ∧
    (k.grant z).pallets = k.pallets ∧
    (k.grant z).lanes = k.lanes ∧
    (k.grant z).rings = k.rings ∧
    (k.grant z).doors = k.doors ∧
    (k.grant z).slotLimit = k.slotLimit ∧
    (k.grant z).flights = k.flights ∧
    (k.grant z).plantStop = k.plantStop ∧
    (k.grant z).mask = k.mask ∧
    (k.grant z).nodes = k.nodes := by
  simp [Dock.grant]

@[simp] theorem Dock.arbiterLoop_frame (n : Nat) :
    (k.arbiterLoop n).commissioning = k.commissioning ∧
    (k.arbiterLoop n).running = k.running ∧
    (k.arbiterLoop n).offset = k.offset ∧
    (k.arbiterLoop n).probes = k.probes ∧
    (k.arbiterLoop n).classes = k.classes ∧
    (k.arbiterLoop n).pallets = k.pallets ∧
    (k.arbiterLoop n).lanes = k.lanes ∧
    (k.arbiterLoop n).rings = k.rings ∧
    (k.arbiterLoop n).doors = k.doors ∧
    (k.arbiterLoop n).slotLimit = k.slotLimit ∧
    (k.arbiterLoop n).flights = k.flights ∧
    (k.arbiterLoop n).plantStop = k.plantStop ∧
    (k.arbiterLoop n).mask = k.mask ∧
    (k.arbiterLoop n).nodes = k.nodes := by
  induction n generalizing k with
  | zero => simp [Dock.arbiterLoop]
  | succ n ih => simp only [Dock.arbiterLoop]; (repeat' split) <;> simp [ih]

@[simp] theorem Dock.arbiter_frame :
    (k.arbiter).commissioning = k.commissioning ∧
    (k.arbiter).running = k.running ∧
    (k.arbiter).offset = k.offset ∧
    (k.arbiter).probes = k.probes ∧
    (k.arbiter).classes = k.classes ∧
    (k.arbiter).pallets = k.pallets ∧
    (k.arbiter).lanes = k.lanes ∧
    (k.arbiter).rings = k.rings ∧
    (k.arbiter).doors = k.doors ∧
    (k.arbiter).slotLimit = k.slotLimit ∧
    (k.arbiter).flights = k.flights ∧
    (k.arbiter).plantStop = k.plantStop ∧
    (k.arbiter).mask = k.mask ∧
    (k.arbiter).nodes = k.nodes := by
  simp [Dock.arbiter]

@[simp] theorem Dock.enterDue_frame (z : Fin 8) :
    (k.enterDue z).commissioning = k.commissioning ∧
    (k.enterDue z).running = k.running ∧
    (k.enterDue z).offset = k.offset ∧
    (k.enterDue z).probes = k.probes ∧
    (k.enterDue z).classes = k.classes ∧
    (k.enterDue z).pallets = k.pallets ∧
    (k.enterDue z).lanes = k.lanes ∧
    (k.enterDue z).rings = k.rings ∧
    (k.enterDue z).doors = k.doors ∧
    (k.enterDue z).slotLimit = k.slotLimit ∧
    (k.enterDue z).flights = k.flights ∧
    (k.enterDue z).plantStop = k.plantStop ∧
    (k.enterDue z).mask = k.mask ∧
    (k.enterDue z).nodes = k.nodes := by
  simp [Dock.enterDue]

@[simp] theorem Dock.dueTest_frame (z : Fin 8) :
    (k.dueTest z).commissioning = k.commissioning ∧
    (k.dueTest z).running = k.running ∧
    (k.dueTest z).offset = k.offset ∧
    (k.dueTest z).probes = k.probes ∧
    (k.dueTest z).classes = k.classes ∧
    (k.dueTest z).pallets = k.pallets ∧
    (k.dueTest z).lanes = k.lanes ∧
    (k.dueTest z).rings = k.rings ∧
    (k.dueTest z).doors = k.doors ∧
    (k.dueTest z).slotLimit = k.slotLimit ∧
    (k.dueTest z).flights = k.flights ∧
    (k.dueTest z).plantStop = k.plantStop ∧
    (k.dueTest z).mask = k.mask ∧
    (k.dueTest z).nodes = k.nodes := by
  simp only [Dock.dueTest]; (repeat' split) <;> simp

@[simp] theorem Dock.addFrost_frame (z : Fin 8) (n : Nat) :
    (k.addFrost z n).commissioning = k.commissioning ∧
    (k.addFrost z n).running = k.running ∧
    (k.addFrost z n).offset = k.offset ∧
    (k.addFrost z n).probes = k.probes ∧
    (k.addFrost z n).classes = k.classes ∧
    (k.addFrost z n).pallets = k.pallets ∧
    (k.addFrost z n).lanes = k.lanes ∧
    (k.addFrost z n).rings = k.rings ∧
    (k.addFrost z n).doors = k.doors ∧
    (k.addFrost z n).slotLimit = k.slotLimit ∧
    (k.addFrost z n).flights = k.flights ∧
    (k.addFrost z n).plantStop = k.plantStop ∧
    (k.addFrost z n).mask = k.mask ∧
    (k.addFrost z n).nodes = k.nodes := by
  simp [Dock.addFrost]

@[simp] theorem Dock.endDefrost_frame (z : Fin 8) :
    (k.endDefrost z).commissioning = k.commissioning ∧
    (k.endDefrost z).running = k.running ∧
    (k.endDefrost z).offset = k.offset ∧
    (k.endDefrost z).probes = k.probes ∧
    (k.endDefrost z).classes = k.classes ∧
    (k.endDefrost z).pallets = k.pallets ∧
    (k.endDefrost z).lanes = k.lanes ∧
    (k.endDefrost z).rings = k.rings ∧
    (k.endDefrost z).doors = k.doors ∧
    (k.endDefrost z).slotLimit = k.slotLimit ∧
    (k.endDefrost z).flights = k.flights ∧
    (k.endDefrost z).plantStop = k.plantStop ∧
    (k.endDefrost z).mask = k.mask ∧
    (k.endDefrost z).nodes = k.nodes := by
  simp [Dock.endDefrost]

@[simp] theorem Dock.recoveryTest_frame (z : Fin 8) :
    (k.recoveryTest z).commissioning = k.commissioning ∧
    (k.recoveryTest z).running = k.running ∧
    (k.recoveryTest z).offset = k.offset ∧
    (k.recoveryTest z).probes = k.probes ∧
    (k.recoveryTest z).classes = k.classes ∧
    (k.recoveryTest z).pallets = k.pallets ∧
    (k.recoveryTest z).lanes = k.lanes ∧
    (k.recoveryTest z).rings = k.rings ∧
    (k.recoveryTest z).doors = k.doors ∧
    (k.recoveryTest z).slotLimit = k.slotLimit ∧
    (k.recoveryTest z).flights = k.flights ∧
    (k.recoveryTest z).plantStop = k.plantStop ∧
    (k.recoveryTest z).mask = k.mask ∧
    (k.recoveryTest z).nodes = k.nodes := by
  simp only [Dock.recoveryTest]; (repeat' split) <;> simp

@[simp] theorem Dock.enterRecovery_frame (z : Fin 8) :
    (k.enterRecovery z).commissioning = k.commissioning ∧
    (k.enterRecovery z).running = k.running ∧
    (k.enterRecovery z).offset = k.offset ∧
    (k.enterRecovery z).probes = k.probes ∧
    (k.enterRecovery z).classes = k.classes ∧
    (k.enterRecovery z).pallets = k.pallets ∧
    (k.enterRecovery z).lanes = k.lanes ∧
    (k.enterRecovery z).rings = k.rings ∧
    (k.enterRecovery z).doors = k.doors ∧
    (k.enterRecovery z).slotLimit = k.slotLimit ∧
    (k.enterRecovery z).flights = k.flights ∧
    (k.enterRecovery z).plantStop = k.plantStop ∧
    (k.enterRecovery z).mask = k.mask ∧
    (k.enterRecovery z).nodes = k.nodes := by
  simp [Dock.enterRecovery]

@[simp] theorem Dock.enterDripping_frame (z : Fin 8) :
    (k.enterDripping z).commissioning = k.commissioning ∧
    (k.enterDripping z).running = k.running ∧
    (k.enterDripping z).offset = k.offset ∧
    (k.enterDripping z).probes = k.probes ∧
    (k.enterDripping z).classes = k.classes ∧
    (k.enterDripping z).pallets = k.pallets ∧
    (k.enterDripping z).lanes = k.lanes ∧
    (k.enterDripping z).rings = k.rings ∧
    (k.enterDripping z).doors = k.doors ∧
    (k.enterDripping z).slotLimit = k.slotLimit ∧
    (k.enterDripping z).flights = k.flights ∧
    (k.enterDripping z).plantStop = k.plantStop ∧
    (k.enterDripping z).mask = k.mask ∧
    (k.enterDripping z).nodes = k.nodes := by
  simp only [Dock.enterDripping]; (repeat' split) <;> simp

@[simp] theorem Dock.clearRecoveryLate_frame (z : Fin 8) :
    (k.clearRecoveryLate z).commissioning = k.commissioning ∧
    (k.clearRecoveryLate z).running = k.running ∧
    (k.clearRecoveryLate z).offset = k.offset ∧
    (k.clearRecoveryLate z).zones = k.zones ∧
    (k.clearRecoveryLate z).probes = k.probes ∧
    (k.clearRecoveryLate z).classes = k.classes ∧
    (k.clearRecoveryLate z).pallets = k.pallets ∧
    (k.clearRecoveryLate z).lanes = k.lanes ∧
    (k.clearRecoveryLate z).rings = k.rings ∧
    (k.clearRecoveryLate z).doors = k.doors ∧
    (k.clearRecoveryLate z).defrosts = k.defrosts ∧
    (k.clearRecoveryLate z).slotLimit = k.slotLimit ∧
    (k.clearRecoveryLate z).flights = k.flights ∧
    (k.clearRecoveryLate z).channels = k.channels ∧
    (k.clearRecoveryLate z).plantStop = k.plantStop ∧
    (k.clearRecoveryLate z).mask = k.mask ∧
    (k.clearRecoveryLate z).nodes = k.nodes := by
  simp only [Dock.clearRecoveryLate]; (repeat' split) <;> simp

@[simp] theorem Dock.changeMoves_frame (z : Fin 8) (f : Nat → Nat) :
    (k.changeMoves z f).commissioning = k.commissioning ∧
    (k.changeMoves z f).running = k.running ∧
    (k.changeMoves z f).offset = k.offset ∧
    (k.changeMoves z f).probes = k.probes ∧
    (k.changeMoves z f).classes = k.classes ∧
    (k.changeMoves z f).pallets = k.pallets ∧
    (k.changeMoves z f).lanes = k.lanes ∧
    (k.changeMoves z f).rings = k.rings ∧
    (k.changeMoves z f).doors = k.doors ∧
    (k.changeMoves z f).slotLimit = k.slotLimit ∧
    (k.changeMoves z f).flights = k.flights ∧
    (k.changeMoves z f).plantStop = k.plantStop ∧
    (k.changeMoves z f).mask = k.mask ∧
    (k.changeMoves z f).nodes = k.nodes := by
  simp [Dock.changeMoves]

@[simp] theorem Dock.changeOpenDoors_frame (z : Fin 8) (f : Nat → Nat) :
    (k.changeOpenDoors z f).commissioning = k.commissioning ∧
    (k.changeOpenDoors z f).running = k.running ∧
    (k.changeOpenDoors z f).offset = k.offset ∧
    (k.changeOpenDoors z f).probes = k.probes ∧
    (k.changeOpenDoors z f).classes = k.classes ∧
    (k.changeOpenDoors z f).pallets = k.pallets ∧
    (k.changeOpenDoors z f).lanes = k.lanes ∧
    (k.changeOpenDoors z f).rings = k.rings ∧
    (k.changeOpenDoors z f).doors = k.doors ∧
    (k.changeOpenDoors z f).slotLimit = k.slotLimit ∧
    (k.changeOpenDoors z f).flights = k.flights ∧
    (k.changeOpenDoors z f).plantStop = k.plantStop ∧
    (k.changeOpenDoors z f).mask = k.mask ∧
    (k.changeOpenDoors z f).nodes = k.nodes := by
  simp [Dock.changeOpenDoors]

@[simp] theorem Dock.moveBegan_frame (r : Fin 20) (src dst : Option (Fin 8)) :
    (k.moveBegan r src dst).commissioning = k.commissioning ∧
    (k.moveBegan r src dst).running = k.running ∧
    (k.moveBegan r src dst).offset = k.offset ∧
    (k.moveBegan r src dst).probes = k.probes ∧
    (k.moveBegan r src dst).classes = k.classes ∧
    (k.moveBegan r src dst).pallets = k.pallets ∧
    (k.moveBegan r src dst).lanes = k.lanes ∧
    (k.moveBegan r src dst).rings = k.rings ∧
    (k.moveBegan r src dst).doors = k.doors ∧
    (k.moveBegan r src dst).slotLimit = k.slotLimit ∧
    (k.moveBegan r src dst).plantStop = k.plantStop ∧
    (k.moveBegan r src dst).mask = k.mask ∧
    (k.moveBegan r src dst).nodes = k.nodes := by
  simp only [Dock.moveBegan]
  exact ⟨foldl_keeps Dock.commissioning _ (fun k a => by simp) _ _,
    foldl_keeps Dock.running _ (fun k a => by simp) _ _,
    foldl_keeps Dock.offset _ (fun k a => by simp) _ _,
    foldl_keeps Dock.probes _ (fun k a => by simp) _ _,
    foldl_keeps Dock.classes _ (fun k a => by simp) _ _,
    foldl_keeps Dock.pallets _ (fun k a => by simp) _ _,
    foldl_keeps Dock.lanes _ (fun k a => by simp) _ _,
    foldl_keeps Dock.rings _ (fun k a => by simp) _ _,
    foldl_keeps Dock.doors _ (fun k a => by simp) _ _,
    foldl_keeps Dock.slotLimit _ (fun k a => by simp) _ _,
    foldl_keeps Dock.plantStop _ (fun k a => by simp) _ _,
    foldl_keeps Dock.mask _ (fun k a => by simp) _ _,
    foldl_keeps Dock.nodes _ (fun k a => by simp) _ _⟩

@[simp] theorem Dock.moveEnded_frame (r : Fin 20) :
    (k.moveEnded r).commissioning = k.commissioning ∧
    (k.moveEnded r).running = k.running ∧
    (k.moveEnded r).offset = k.offset ∧
    (k.moveEnded r).probes = k.probes ∧
    (k.moveEnded r).classes = k.classes ∧
    (k.moveEnded r).pallets = k.pallets ∧
    (k.moveEnded r).lanes = k.lanes ∧
    (k.moveEnded r).rings = k.rings ∧
    (k.moveEnded r).doors = k.doors ∧
    (k.moveEnded r).slotLimit = k.slotLimit ∧
    (k.moveEnded r).plantStop = k.plantStop ∧
    (k.moveEnded r).mask = k.mask ∧
    (k.moveEnded r).nodes = k.nodes := by
  simp only [Dock.moveEnded]
  exact ⟨foldl_keeps Dock.commissioning _ (fun k a => by simp) _ _,
    foldl_keeps Dock.running _ (fun k a => by simp) _ _,
    foldl_keeps Dock.offset _ (fun k a => by simp) _ _,
    foldl_keeps Dock.probes _ (fun k a => by simp) _ _,
    foldl_keeps Dock.classes _ (fun k a => by simp) _ _,
    foldl_keeps Dock.pallets _ (fun k a => by simp) _ _,
    foldl_keeps Dock.lanes _ (fun k a => by simp) _ _,
    foldl_keeps Dock.rings _ (fun k a => by simp) _ _,
    foldl_keeps Dock.doors _ (fun k a => by simp) _ _,
    foldl_keeps Dock.slotLimit _ (fun k a => by simp) _ _,
    foldl_keeps Dock.plantStop _ (fun k a => by simp) _ _,
    foldl_keeps Dock.mask _ (fun k a => by simp) _ _,
    foldl_keeps Dock.nodes _ (fun k a => by simp) _ _⟩

@[simp] theorem Dock.coilReading_frame (z : Fin 8) (t : Option Int) :
    (k.coilReading z t).commissioning = k.commissioning ∧
    (k.coilReading z t).running = k.running ∧
    (k.coilReading z t).offset = k.offset ∧
    (k.coilReading z t).probes = k.probes ∧
    (k.coilReading z t).classes = k.classes ∧
    (k.coilReading z t).pallets = k.pallets ∧
    (k.coilReading z t).lanes = k.lanes ∧
    (k.coilReading z t).rings = k.rings ∧
    (k.coilReading z t).doors = k.doors ∧
    (k.coilReading z t).slotLimit = k.slotLimit ∧
    (k.coilReading z t).flights = k.flights ∧
    (k.coilReading z t).plantStop = k.plantStop ∧
    (k.coilReading z t).mask = k.mask ∧
    (k.coilReading z t).nodes = k.nodes := by
  simp only [Dock.coilReading]; (repeat' split) <;> simp

@[simp] theorem Dock.abortZone_frame (z : Fin 8) :
    (k.abortZone z).commissioning = k.commissioning ∧
    (k.abortZone z).running = k.running ∧
    (k.abortZone z).offset = k.offset ∧
    (k.abortZone z).probes = k.probes ∧
    (k.abortZone z).classes = k.classes ∧
    (k.abortZone z).pallets = k.pallets ∧
    (k.abortZone z).lanes = k.lanes ∧
    (k.abortZone z).rings = k.rings ∧
    (k.abortZone z).doors = k.doors ∧
    (k.abortZone z).slotLimit = k.slotLimit ∧
    (k.abortZone z).flights = k.flights ∧
    (k.abortZone z).plantStop = k.plantStop ∧
    (k.abortZone z).mask = k.mask ∧
    (k.abortZone z).nodes = k.nodes := by
  simp only [Dock.abortZone]; (repeat' split) <;> simp

@[simp] theorem Dock.defrostPlantStop_frame :
    (k.defrostPlantStop).commissioning = k.commissioning ∧
    (k.defrostPlantStop).running = k.running ∧
    (k.defrostPlantStop).offset = k.offset ∧
    (k.defrostPlantStop).probes = k.probes ∧
    (k.defrostPlantStop).classes = k.classes ∧
    (k.defrostPlantStop).pallets = k.pallets ∧
    (k.defrostPlantStop).lanes = k.lanes ∧
    (k.defrostPlantStop).rings = k.rings ∧
    (k.defrostPlantStop).doors = k.doors ∧
    (k.defrostPlantStop).slotLimit = k.slotLimit ∧
    (k.defrostPlantStop).flights = k.flights ∧
    (k.defrostPlantStop).plantStop = k.plantStop ∧
    (k.defrostPlantStop).mask = k.mask ∧
    (k.defrostPlantStop).nodes = k.nodes := by
  simp only [Dock.defrostPlantStop]
  exact ⟨foldl_keeps Dock.commissioning _ (fun k a => by simp) _ _,
    foldl_keeps Dock.running _ (fun k a => by simp) _ _,
    foldl_keeps Dock.offset _ (fun k a => by simp) _ _,
    foldl_keeps Dock.probes _ (fun k a => by simp) _ _,
    foldl_keeps Dock.classes _ (fun k a => by simp) _ _,
    foldl_keeps Dock.pallets _ (fun k a => by simp) _ _,
    foldl_keeps Dock.lanes _ (fun k a => by simp) _ _,
    foldl_keeps Dock.rings _ (fun k a => by simp) _ _,
    foldl_keeps Dock.doors _ (fun k a => by simp) _ _,
    foldl_keeps Dock.slotLimit _ (fun k a => by simp) _ _,
    foldl_keeps Dock.flights _ (fun k a => by simp) _ _,
    foldl_keeps Dock.plantStop _ (fun k a => by simp) _ _,
    foldl_keeps Dock.mask _ (fun k a => by simp) _ _,
    foldl_keeps Dock.nodes _ (fun k a => by simp) _ _⟩

@[simp] theorem Dock.defrostPlantRelease_frame :
    (k.defrostPlantRelease).commissioning = k.commissioning ∧
    (k.defrostPlantRelease).running = k.running ∧
    (k.defrostPlantRelease).offset = k.offset ∧
    (k.defrostPlantRelease).probes = k.probes ∧
    (k.defrostPlantRelease).classes = k.classes ∧
    (k.defrostPlantRelease).pallets = k.pallets ∧
    (k.defrostPlantRelease).lanes = k.lanes ∧
    (k.defrostPlantRelease).rings = k.rings ∧
    (k.defrostPlantRelease).doors = k.doors ∧
    (k.defrostPlantRelease).slotLimit = k.slotLimit ∧
    (k.defrostPlantRelease).flights = k.flights ∧
    (k.defrostPlantRelease).plantStop = k.plantStop ∧
    (k.defrostPlantRelease).mask = k.mask ∧
    (k.defrostPlantRelease).nodes = k.nodes := by
  simp only [Dock.defrostPlantRelease, Dock.arbiter_frame]
  exact ⟨foldl_keeps Dock.commissioning _ (fun k a => by simp) _ _,
    foldl_keeps Dock.running _ (fun k a => by simp) _ _,
    foldl_keeps Dock.offset _ (fun k a => by simp) _ _,
    foldl_keeps Dock.probes _ (fun k a => by simp) _ _,
    foldl_keeps Dock.classes _ (fun k a => by simp) _ _,
    foldl_keeps Dock.pallets _ (fun k a => by simp) _ _,
    foldl_keeps Dock.lanes _ (fun k a => by simp) _ _,
    foldl_keeps Dock.rings _ (fun k a => by simp) _ _,
    foldl_keeps Dock.doors _ (fun k a => by simp) _ _,
    foldl_keeps Dock.slotLimit _ (fun k a => by simp) _ _,
    foldl_keeps Dock.flights _ (fun k a => by simp) _ _,
    foldl_keeps Dock.plantStop _ (fun k a => by simp) _ _,
    foldl_keeps Dock.mask _ (fun k a => by simp) _ _,
    foldl_keeps Dock.nodes _ (fun k a => by simp) _ _⟩

@[simp] theorem Dock.intervalExpiry_frame (z : Fin 8) :
    (k.intervalExpiry z).commissioning = k.commissioning ∧
    (k.intervalExpiry z).running = k.running ∧
    (k.intervalExpiry z).offset = k.offset ∧
    (k.intervalExpiry z).probes = k.probes ∧
    (k.intervalExpiry z).classes = k.classes ∧
    (k.intervalExpiry z).pallets = k.pallets ∧
    (k.intervalExpiry z).lanes = k.lanes ∧
    (k.intervalExpiry z).rings = k.rings ∧
    (k.intervalExpiry z).doors = k.doors ∧
    (k.intervalExpiry z).slotLimit = k.slotLimit ∧
    (k.intervalExpiry z).flights = k.flights ∧
    (k.intervalExpiry z).plantStop = k.plantStop ∧
    (k.intervalExpiry z).mask = k.mask ∧
    (k.intervalExpiry z).nodes = k.nodes := by
  simp only [Dock.intervalExpiry]; (repeat' split) <;> simp

@[simp] theorem Dock.durationExpiry_frame (z : Fin 8) :
    (k.durationExpiry z).commissioning = k.commissioning ∧
    (k.durationExpiry z).running = k.running ∧
    (k.durationExpiry z).offset = k.offset ∧
    (k.durationExpiry z).probes = k.probes ∧
    (k.durationExpiry z).classes = k.classes ∧
    (k.durationExpiry z).pallets = k.pallets ∧
    (k.durationExpiry z).lanes = k.lanes ∧
    (k.durationExpiry z).rings = k.rings ∧
    (k.durationExpiry z).doors = k.doors ∧
    (k.durationExpiry z).slotLimit = k.slotLimit ∧
    (k.durationExpiry z).flights = k.flights ∧
    (k.durationExpiry z).plantStop = k.plantStop ∧
    (k.durationExpiry z).mask = k.mask ∧
    (k.durationExpiry z).nodes = k.nodes := by
  simp only [Dock.durationExpiry]; (repeat' split) <;> simp

@[simp] theorem Dock.dripExpiry_frame (z : Fin 8) :
    (k.dripExpiry z).commissioning = k.commissioning ∧
    (k.dripExpiry z).running = k.running ∧
    (k.dripExpiry z).offset = k.offset ∧
    (k.dripExpiry z).probes = k.probes ∧
    (k.dripExpiry z).classes = k.classes ∧
    (k.dripExpiry z).pallets = k.pallets ∧
    (k.dripExpiry z).lanes = k.lanes ∧
    (k.dripExpiry z).rings = k.rings ∧
    (k.dripExpiry z).doors = k.doors ∧
    (k.dripExpiry z).slotLimit = k.slotLimit ∧
    (k.dripExpiry z).flights = k.flights ∧
    (k.dripExpiry z).plantStop = k.plantStop ∧
    (k.dripExpiry z).mask = k.mask ∧
    (k.dripExpiry z).nodes = k.nodes := by
  simp only [Dock.dripExpiry]; (repeat' split) <;> simp

@[simp] theorem Dock.recoveryExpiry_frame (z : Fin 8) :
    (k.recoveryExpiry z).commissioning = k.commissioning ∧
    (k.recoveryExpiry z).running = k.running ∧
    (k.recoveryExpiry z).offset = k.offset ∧
    (k.recoveryExpiry z).probes = k.probes ∧
    (k.recoveryExpiry z).classes = k.classes ∧
    (k.recoveryExpiry z).pallets = k.pallets ∧
    (k.recoveryExpiry z).lanes = k.lanes ∧
    (k.recoveryExpiry z).rings = k.rings ∧
    (k.recoveryExpiry z).doors = k.doors ∧
    (k.recoveryExpiry z).slotLimit = k.slotLimit ∧
    (k.recoveryExpiry z).flights = k.flights ∧
    (k.recoveryExpiry z).plantStop = k.plantStop ∧
    (k.recoveryExpiry z).mask = k.mask ∧
    (k.recoveryExpiry z).nodes = k.nodes := by
  simp only [Dock.recoveryExpiry]; (repeat' split) <;> simp

@[simp] theorem Dock.firstUpdate_frame (z : Fin 8) :
    (k.firstUpdate z).commissioning = k.commissioning ∧
    (k.firstUpdate z).running = k.running ∧
    (k.firstUpdate z).offset = k.offset ∧
    (k.firstUpdate z).probes = k.probes ∧
    (k.firstUpdate z).classes = k.classes ∧
    (k.firstUpdate z).pallets = k.pallets ∧
    (k.firstUpdate z).lanes = k.lanes ∧
    (k.firstUpdate z).rings = k.rings ∧
    (k.firstUpdate z).doors = k.doors ∧
    (k.firstUpdate z).slotLimit = k.slotLimit ∧
    (k.firstUpdate z).flights = k.flights ∧
    (k.firstUpdate z).plantStop = k.plantStop ∧
    (k.firstUpdate z).mask = k.mask ∧
    (k.firstUpdate z).nodes = k.nodes := by
  simp only [Dock.firstUpdate]; (repeat' split) <;> simp

end Sys2Proof.Machine
end

