-- ==== Sys2Proof/Laws/PalletFrames.lean ====
section
/-! SUPPORT. What the operations of pallet records leave unchanged: one frame lemma for each. -/

namespace Sys2Proof.Machine

variable {k : Dock}

@[simp] theorem Dock.regrade_frame (slot : Nat) :
    (k.regrade slot).commissioning = k.commissioning ∧
    (k.regrade slot).running = k.running ∧
    (k.regrade slot).offset = k.offset ∧
    (k.regrade slot).zones = k.zones ∧
    (k.regrade slot).probes = k.probes ∧
    (k.regrade slot).classes = k.classes ∧
    (k.regrade slot).lanes = k.lanes ∧
    (k.regrade slot).rings = k.rings ∧
    (k.regrade slot).doors = k.doors ∧
    (k.regrade slot).defrosts = k.defrosts ∧
    (k.regrade slot).slotLimit = k.slotLimit ∧
    (k.regrade slot).flights = k.flights ∧
    (k.regrade slot).channels = k.channels ∧
    (k.regrade slot).plantStop = k.plantStop ∧
    (k.regrade slot).mask = k.mask ∧
    (k.regrade slot).nodes = k.nodes := by
  simp only [Dock.regrade]; (repeat' split) <;> simp

@[simp] theorem Dock.accrue_frame (slot : Nat) :
    (k.accrue slot).commissioning = k.commissioning ∧
    (k.accrue slot).running = k.running ∧
    (k.accrue slot).offset = k.offset ∧
    (k.accrue slot).zones = k.zones ∧
    (k.accrue slot).probes = k.probes ∧
    (k.accrue slot).classes = k.classes ∧
    (k.accrue slot).lanes = k.lanes ∧
    (k.accrue slot).rings = k.rings ∧
    (k.accrue slot).doors = k.doors ∧
    (k.accrue slot).defrosts = k.defrosts ∧
    (k.accrue slot).slotLimit = k.slotLimit ∧
    (k.accrue slot).flights = k.flights ∧
    (k.accrue slot).channels = k.channels ∧
    (k.accrue slot).plantStop = k.plantStop ∧
    (k.accrue slot).mask = k.mask ∧
    (k.accrue slot).nodes = k.nodes := by
  simp only [Dock.accrue]; (repeat' split) <;> simp

@[simp] theorem Dock.accrueSlots_frame (slots : List Nat) :
    (k.accrueSlots slots).commissioning = k.commissioning ∧
    (k.accrueSlots slots).running = k.running ∧
    (k.accrueSlots slots).offset = k.offset ∧
    (k.accrueSlots slots).zones = k.zones ∧
    (k.accrueSlots slots).probes = k.probes ∧
    (k.accrueSlots slots).classes = k.classes ∧
    (k.accrueSlots slots).lanes = k.lanes ∧
    (k.accrueSlots slots).rings = k.rings ∧
    (k.accrueSlots slots).doors = k.doors ∧
    (k.accrueSlots slots).defrosts = k.defrosts ∧
    (k.accrueSlots slots).slotLimit = k.slotLimit ∧
    (k.accrueSlots slots).flights = k.flights ∧
    (k.accrueSlots slots).channels = k.channels ∧
    (k.accrueSlots slots).plantStop = k.plantStop ∧
    (k.accrueSlots slots).mask = k.mask ∧
    (k.accrueSlots slots).nodes = k.nodes := by
  simp only [Dock.accrueSlots]
  exact ⟨foldl_keeps Dock.commissioning _ (fun k a => by simp) _ _,
    foldl_keeps Dock.running _ (fun k a => by simp) _ _,
    foldl_keeps Dock.offset _ (fun k a => by simp) _ _,
    foldl_keeps Dock.zones _ (fun k a => by simp) _ _,
    foldl_keeps Dock.probes _ (fun k a => by simp) _ _,
    foldl_keeps Dock.classes _ (fun k a => by simp) _ _,
    foldl_keeps Dock.lanes _ (fun k a => by simp) _ _,
    foldl_keeps Dock.rings _ (fun k a => by simp) _ _,
    foldl_keeps Dock.doors _ (fun k a => by simp) _ _,
    foldl_keeps Dock.defrosts _ (fun k a => by simp) _ _,
    foldl_keeps Dock.slotLimit _ (fun k a => by simp) _ _,
    foldl_keeps Dock.flights _ (fun k a => by simp) _ _,
    foldl_keeps Dock.channels _ (fun k a => by simp) _ _,
    foldl_keeps Dock.plantStop _ (fun k a => by simp) _ _,
    foldl_keeps Dock.mask _ (fun k a => by simp) _ _,
    foldl_keeps Dock.nodes _ (fun k a => by simp) _ _⟩

@[simp] theorem Dock.accrueWhere_frame (f : Pallet → Bool) :
    (k.accrueWhere f).commissioning = k.commissioning ∧
    (k.accrueWhere f).running = k.running ∧
    (k.accrueWhere f).offset = k.offset ∧
    (k.accrueWhere f).zones = k.zones ∧
    (k.accrueWhere f).probes = k.probes ∧
    (k.accrueWhere f).classes = k.classes ∧
    (k.accrueWhere f).lanes = k.lanes ∧
    (k.accrueWhere f).rings = k.rings ∧
    (k.accrueWhere f).doors = k.doors ∧
    (k.accrueWhere f).defrosts = k.defrosts ∧
    (k.accrueWhere f).slotLimit = k.slotLimit ∧
    (k.accrueWhere f).flights = k.flights ∧
    (k.accrueWhere f).channels = k.channels ∧
    (k.accrueWhere f).plantStop = k.plantStop ∧
    (k.accrueWhere f).mask = k.mask ∧
    (k.accrueWhere f).nodes = k.nodes := by
  simp [Dock.accrueWhere]

@[simp] theorem Dock.accrueTrailer_frame (d : Fin 16) :
    (k.accrueTrailer d).commissioning = k.commissioning ∧
    (k.accrueTrailer d).running = k.running ∧
    (k.accrueTrailer d).offset = k.offset ∧
    (k.accrueTrailer d).zones = k.zones ∧
    (k.accrueTrailer d).probes = k.probes ∧
    (k.accrueTrailer d).classes = k.classes ∧
    (k.accrueTrailer d).lanes = k.lanes ∧
    (k.accrueTrailer d).rings = k.rings ∧
    (k.accrueTrailer d).doors = k.doors ∧
    (k.accrueTrailer d).defrosts = k.defrosts ∧
    (k.accrueTrailer d).slotLimit = k.slotLimit ∧
    (k.accrueTrailer d).flights = k.flights ∧
    (k.accrueTrailer d).channels = k.channels ∧
    (k.accrueTrailer d).plantStop = k.plantStop ∧
    (k.accrueTrailer d).mask = k.mask ∧
    (k.accrueTrailer d).nodes = k.nodes := by
  simp [Dock.accrueTrailer]

@[simp] theorem Dock.relocate_frame (slot : Nat) (loc : Loc) :
    (k.relocate slot loc).commissioning = k.commissioning ∧
    (k.relocate slot loc).running = k.running ∧
    (k.relocate slot loc).offset = k.offset ∧
    (k.relocate slot loc).zones = k.zones ∧
    (k.relocate slot loc).probes = k.probes ∧
    (k.relocate slot loc).classes = k.classes ∧
    (k.relocate slot loc).lanes = k.lanes ∧
    (k.relocate slot loc).rings = k.rings ∧
    (k.relocate slot loc).doors = k.doors ∧
    (k.relocate slot loc).defrosts = k.defrosts ∧
    (k.relocate slot loc).slotLimit = k.slotLimit ∧
    (k.relocate slot loc).flights = k.flights ∧
    (k.relocate slot loc).channels = k.channels ∧
    (k.relocate slot loc).plantStop = k.plantStop ∧
    (k.relocate slot loc).mask = k.mask ∧
    (k.relocate slot loc).nodes = k.nodes := by
  simp [Dock.relocate]

@[simp] theorem Dock.relocateSlots_frame (slots : List Nat) (loc : Loc) :
    (k.relocateSlots slots loc).commissioning = k.commissioning ∧
    (k.relocateSlots slots loc).running = k.running ∧
    (k.relocateSlots slots loc).offset = k.offset ∧
    (k.relocateSlots slots loc).zones = k.zones ∧
    (k.relocateSlots slots loc).probes = k.probes ∧
    (k.relocateSlots slots loc).classes = k.classes ∧
    (k.relocateSlots slots loc).lanes = k.lanes ∧
    (k.relocateSlots slots loc).rings = k.rings ∧
    (k.relocateSlots slots loc).doors = k.doors ∧
    (k.relocateSlots slots loc).defrosts = k.defrosts ∧
    (k.relocateSlots slots loc).slotLimit = k.slotLimit ∧
    (k.relocateSlots slots loc).flights = k.flights ∧
    (k.relocateSlots slots loc).channels = k.channels ∧
    (k.relocateSlots slots loc).plantStop = k.plantStop ∧
    (k.relocateSlots slots loc).mask = k.mask ∧
    (k.relocateSlots slots loc).nodes = k.nodes := by
  simp only [Dock.relocateSlots]
  exact ⟨foldl_keeps Dock.commissioning _ (fun k a => by simp) _ _,
    foldl_keeps Dock.running _ (fun k a => by simp) _ _,
    foldl_keeps Dock.offset _ (fun k a => by simp) _ _,
    foldl_keeps Dock.zones _ (fun k a => by simp) _ _,
    foldl_keeps Dock.probes _ (fun k a => by simp) _ _,
    foldl_keeps Dock.classes _ (fun k a => by simp) _ _,
    foldl_keeps Dock.lanes _ (fun k a => by simp) _ _,
    foldl_keeps Dock.rings _ (fun k a => by simp) _ _,
    foldl_keeps Dock.doors _ (fun k a => by simp) _ _,
    foldl_keeps Dock.defrosts _ (fun k a => by simp) _ _,
    foldl_keeps Dock.slotLimit _ (fun k a => by simp) _ _,
    foldl_keeps Dock.flights _ (fun k a => by simp) _ _,
    foldl_keeps Dock.channels _ (fun k a => by simp) _ _,
    foldl_keeps Dock.plantStop _ (fun k a => by simp) _ _,
    foldl_keeps Dock.mask _ (fun k a => by simp) _ _,
    foldl_keeps Dock.nodes _ (fun k a => by simp) _ _⟩

end Sys2Proof.Machine
end

