-- ==== Sys2Proof/Laws/DoorFrames.lean ====
section
/-! SUPPORT. What the operations of door state entries leave unchanged: one frame lemma for each. -/

namespace Sys2Proof.Machine

variable {k : Dock}

@[simp] theorem Dock.modTimers_frame (d : Fin 16) (f : DoorTimers → DoorTimers) :
    (k.modTimers d f).commissioning = k.commissioning ∧
    (k.modTimers d f).running = k.running ∧
    (k.modTimers d f).offset = k.offset ∧
    (k.modTimers d f).zones = k.zones ∧
    (k.modTimers d f).probes = k.probes ∧
    (k.modTimers d f).classes = k.classes ∧
    (k.modTimers d f).pallets = k.pallets ∧
    (k.modTimers d f).lanes = k.lanes ∧
    (k.modTimers d f).rings = k.rings ∧
    (k.modTimers d f).defrosts = k.defrosts ∧
    (k.modTimers d f).slotLimit = k.slotLimit ∧
    (k.modTimers d f).flights = k.flights ∧
    (k.modTimers d f).channels = k.channels ∧
    (k.modTimers d f).plantStop = k.plantStop ∧
    (k.modTimers d f).alarms = k.alarms ∧
    (k.modTimers d f).overflow = k.overflow ∧
    (k.modTimers d f).mask = k.mask ∧
    (k.modTimers d f).alarmLine = k.alarmLine ∧
    (k.modTimers d f).nodes = k.nodes ∧
    (k.modTimers d f).siteNotices = k.siteNotices ∧
    (k.modTimers d f).floorNotices = k.floorNotices := by
  simp [Dock.modTimers]

@[simp] theorem Dock.commandDoor_frame (d : Fin 16) :
    (k.commandDoor d).commissioning = k.commissioning ∧
    (k.commandDoor d).running = k.running ∧
    (k.commandDoor d).offset = k.offset ∧
    (k.commandDoor d).zones = k.zones ∧
    (k.commandDoor d).probes = k.probes ∧
    (k.commandDoor d).classes = k.classes ∧
    (k.commandDoor d).pallets = k.pallets ∧
    (k.commandDoor d).lanes = k.lanes ∧
    (k.commandDoor d).rings = k.rings ∧
    (k.commandDoor d).doors = k.doors ∧
    (k.commandDoor d).defrosts = k.defrosts ∧
    (k.commandDoor d).slotLimit = k.slotLimit ∧
    (k.commandDoor d).flights = k.flights ∧
    (k.commandDoor d).plantStop = k.plantStop ∧
    (k.commandDoor d).mask = k.mask ∧
    (k.commandDoor d).nodes = k.nodes := by
  simp only [Dock.commandDoor]; (repeat' split) <;> simp

@[simp] theorem Dock.feed_frame (d : Fin 16) :
    (k.feed d).commissioning = k.commissioning ∧
    (k.feed d).running = k.running ∧
    (k.feed d).offset = k.offset ∧
    (k.feed d).probes = k.probes ∧
    (k.feed d).classes = k.classes ∧
    (k.feed d).pallets = k.pallets ∧
    (k.feed d).lanes = k.lanes ∧
    (k.feed d).rings = k.rings ∧
    (k.feed d).slotLimit = k.slotLimit ∧
    (k.feed d).flights = k.flights ∧
    (k.feed d).plantStop = k.plantStop ∧
    (k.feed d).mask = k.mask ∧
    (k.feed d).nodes = k.nodes := by
  simp only [Dock.feed]; (repeat' split) <;> simp

@[simp] theorem Dock.tellOpenDoors_frame (d : Fin 16) (f : Nat → Nat) :
    (k.tellOpenDoors d f).commissioning = k.commissioning ∧
    (k.tellOpenDoors d f).running = k.running ∧
    (k.tellOpenDoors d f).offset = k.offset ∧
    (k.tellOpenDoors d f).probes = k.probes ∧
    (k.tellOpenDoors d f).classes = k.classes ∧
    (k.tellOpenDoors d f).pallets = k.pallets ∧
    (k.tellOpenDoors d f).lanes = k.lanes ∧
    (k.tellOpenDoors d f).rings = k.rings ∧
    (k.tellOpenDoors d f).doors = k.doors ∧
    (k.tellOpenDoors d f).slotLimit = k.slotLimit ∧
    (k.tellOpenDoors d f).flights = k.flights ∧
    (k.tellOpenDoors d f).plantStop = k.plantStop ∧
    (k.tellOpenDoors d f).mask = k.mask ∧
    (k.tellOpenDoors d f).nodes = k.nodes := by
  simp only [Dock.tellOpenDoors]; (repeat' split) <;> simp

@[simp] theorem Dock.leaveSet_frame (d : Fin 16) :
    (k.leaveSet d).commissioning = k.commissioning ∧
    (k.leaveSet d).running = k.running ∧
    (k.leaveSet d).offset = k.offset ∧
    (k.leaveSet d).probes = k.probes ∧
    (k.leaveSet d).classes = k.classes ∧
    (k.leaveSet d).lanes = k.lanes ∧
    (k.leaveSet d).rings = k.rings ∧
    (k.leaveSet d).slotLimit = k.slotLimit ∧
    (k.leaveSet d).flights = k.flights ∧
    (k.leaveSet d).plantStop = k.plantStop ∧
    (k.leaveSet d).mask = k.mask ∧
    (k.leaveSet d).nodes = k.nodes := by
  simp [Dock.leaveSet]

@[simp] theorem Dock.joinSet_frame (d : Fin 16) :
    (k.joinSet d).commissioning = k.commissioning ∧
    (k.joinSet d).running = k.running ∧
    (k.joinSet d).offset = k.offset ∧
    (k.joinSet d).probes = k.probes ∧
    (k.joinSet d).classes = k.classes ∧
    (k.joinSet d).lanes = k.lanes ∧
    (k.joinSet d).rings = k.rings ∧
    (k.joinSet d).slotLimit = k.slotLimit ∧
    (k.joinSet d).flights = k.flights ∧
    (k.joinSet d).plantStop = k.plantStop ∧
    (k.joinSet d).mask = k.mask ∧
    (k.joinSet d).nodes = k.nodes := by
  simp [Dock.joinSet]

@[simp] theorem Dock.enterState_frame (d : Fin 16) (st : DoorState) :
    (k.enterState d st).commissioning = k.commissioning ∧
    (k.enterState d st).running = k.running ∧
    (k.enterState d st).offset = k.offset ∧
    (k.enterState d st).zones = k.zones ∧
    (k.enterState d st).probes = k.probes ∧
    (k.enterState d st).classes = k.classes ∧
    (k.enterState d st).pallets = k.pallets ∧
    (k.enterState d st).lanes = k.lanes ∧
    (k.enterState d st).rings = k.rings ∧
    (k.enterState d st).defrosts = k.defrosts ∧
    (k.enterState d st).slotLimit = k.slotLimit ∧
    (k.enterState d st).flights = k.flights ∧
    (k.enterState d st).plantStop = k.plantStop ∧
    (k.enterState d st).mask = k.mask ∧
    (k.enterState d st).nodes = k.nodes := by
  simp [Dock.enterState]

/-- R80, R81: what an entry into a state writes into the door records. -/
theorem Dock.enterState_doors (d : Fin 16) (new : DoorState) :
    (k.enterState d new).doors = tmod k.doors d (fun dr =>
      { dr with
        state := new
        timers := timersOn (k.doors[d]).state new dr.closeRequested k.plantStop k.running dr.timers
        sealLost := dr.sealLost && decide (new ≠ .inflating)
        closeRequested := dr.closeRequested && decide (new ≠ .fault) }) := by
  simp only [Dock.enterState, Dock.notify_frame, Dock.commandDoor_frame]
  simp [Dock.modDoor]

@[simp] theorem Dock.changeState_frame (d : Fin 16) (st : DoorState) :
    (k.changeState d st).commissioning = k.commissioning ∧
    (k.changeState d st).running = k.running ∧
    (k.changeState d st).offset = k.offset ∧
    (k.changeState d st).probes = k.probes ∧
    (k.changeState d st).classes = k.classes ∧
    (k.changeState d st).lanes = k.lanes ∧
    (k.changeState d st).rings = k.rings ∧
    (k.changeState d st).slotLimit = k.slotLimit ∧
    (k.changeState d st).flights = k.flights ∧
    (k.changeState d st).plantStop = k.plantStop ∧
    (k.changeState d st).mask = k.mask ∧
    (k.changeState d st).nodes = k.nodes := by
  simp only [Dock.changeState]; (repeat' split) <;> simp

@[simp] theorem Dock.closeOrFault_frame (d : Fin 16) :
    (k.closeOrFault d).commissioning = k.commissioning ∧
    (k.closeOrFault d).running = k.running ∧
    (k.closeOrFault d).offset = k.offset ∧
    (k.closeOrFault d).probes = k.probes ∧
    (k.closeOrFault d).classes = k.classes ∧
    (k.closeOrFault d).lanes = k.lanes ∧
    (k.closeOrFault d).rings = k.rings ∧
    (k.closeOrFault d).slotLimit = k.slotLimit ∧
    (k.closeOrFault d).flights = k.flights ∧
    (k.closeOrFault d).plantStop = k.plantStop ∧
    (k.closeOrFault d).mask = k.mask ∧
    (k.closeOrFault d).nodes = k.nodes := by
  simp only [Dock.closeOrFault]; (repeat' split) <;> simp

@[simp] theorem Dock.countRises_frame (d : Fin 16) :
    (k.countRises d).commissioning = k.commissioning ∧
    (k.countRises d).running = k.running ∧
    (k.countRises d).offset = k.offset ∧
    (k.countRises d).zones = k.zones ∧
    (k.countRises d).probes = k.probes ∧
    (k.countRises d).classes = k.classes ∧
    (k.countRises d).pallets = k.pallets ∧
    (k.countRises d).lanes = k.lanes ∧
    (k.countRises d).rings = k.rings ∧
    (k.countRises d).defrosts = k.defrosts ∧
    (k.countRises d).slotLimit = k.slotLimit ∧
    (k.countRises d).flights = k.flights ∧
    (k.countRises d).channels = k.channels ∧
    (k.countRises d).plantStop = k.plantStop ∧
    (k.countRises d).alarms = k.alarms ∧
    (k.countRises d).overflow = k.overflow ∧
    (k.countRises d).mask = k.mask ∧
    (k.countRises d).alarmLine = k.alarmLine ∧
    (k.countRises d).nodes = k.nodes ∧
    (k.countRises d).siteNotices = k.siteNotices ∧
    (k.countRises d).floorNotices = k.floorNotices := by
  simp [Dock.countRises]

@[simp] theorem Dock.countFalls_frame (d : Fin 16) (e : Option (Fin 16)) :
    (k.countFalls d e).commissioning = k.commissioning ∧
    (k.countFalls d e).running = k.running ∧
    (k.countFalls d e).offset = k.offset ∧
    (k.countFalls d e).probes = k.probes ∧
    (k.countFalls d e).classes = k.classes ∧
    (k.countFalls d e).lanes = k.lanes ∧
    (k.countFalls d e).rings = k.rings ∧
    (k.countFalls d e).slotLimit = k.slotLimit ∧
    (k.countFalls d e).flights = k.flights ∧
    (k.countFalls d e).plantStop = k.plantStop ∧
    (k.countFalls d e).mask = k.mask ∧
    (k.countFalls d e).nodes = k.nodes := by
  simp only [Dock.countFalls]; (repeat' split) <;> simp

@[simp] theorem Dock.closeFromOpen_frame (d : Fin 16) :
    (k.closeFromOpen d).commissioning = k.commissioning ∧
    (k.closeFromOpen d).running = k.running ∧
    (k.closeFromOpen d).offset = k.offset ∧
    (k.closeFromOpen d).probes = k.probes ∧
    (k.closeFromOpen d).classes = k.classes ∧
    (k.closeFromOpen d).lanes = k.lanes ∧
    (k.closeFromOpen d).rings = k.rings ∧
    (k.closeFromOpen d).slotLimit = k.slotLimit ∧
    (k.closeFromOpen d).flights = k.flights ∧
    (k.closeFromOpen d).plantStop = k.plantStop ∧
    (k.closeFromOpen d).mask = k.mask ∧
    (k.closeFromOpen d).nodes = k.nodes := by
  simp only [Dock.closeFromOpen]; (repeat' split) <;> simp

@[simp] theorem Dock.takeClose_frame (d : Fin 16) :
    (k.takeClose d).commissioning = k.commissioning ∧
    (k.takeClose d).running = k.running ∧
    (k.takeClose d).offset = k.offset ∧
    (k.takeClose d).probes = k.probes ∧
    (k.takeClose d).classes = k.classes ∧
    (k.takeClose d).lanes = k.lanes ∧
    (k.takeClose d).rings = k.rings ∧
    (k.takeClose d).slotLimit = k.slotLimit ∧
    (k.takeClose d).flights = k.flights ∧
    (k.takeClose d).plantStop = k.plantStop ∧
    (k.takeClose d).mask = k.mask ∧
    (k.takeClose d).nodes = k.nodes := by
  simp only [Dock.takeClose]; (repeat' split) <;> simp

@[simp] theorem Dock.deferralExpiry_frame (z : Fin 8) :
    (k.deferralExpiry z).commissioning = k.commissioning ∧
    (k.deferralExpiry z).running = k.running ∧
    (k.deferralExpiry z).offset = k.offset ∧
    (k.deferralExpiry z).probes = k.probes ∧
    (k.deferralExpiry z).classes = k.classes ∧
    (k.deferralExpiry z).lanes = k.lanes ∧
    (k.deferralExpiry z).rings = k.rings ∧
    (k.deferralExpiry z).slotLimit = k.slotLimit ∧
    (k.deferralExpiry z).flights = k.flights ∧
    (k.deferralExpiry z).plantStop = k.plantStop ∧
    (k.deferralExpiry z).mask = k.mask ∧
    (k.deferralExpiry z).nodes = k.nodes := by
  simp only [Dock.deferralExpiry]
  split
  · split
    · exact ⟨(foldl_keeps Dock.commissioning _ (fun k a => by simp) _ _).trans (by simp),
    (foldl_keeps Dock.running _ (fun k a => by simp) _ _).trans (by simp),
    (foldl_keeps Dock.offset _ (fun k a => by simp) _ _).trans (by simp),
    (foldl_keeps Dock.probes _ (fun k a => by simp) _ _).trans (by simp),
    (foldl_keeps Dock.classes _ (fun k a => by simp) _ _).trans (by simp),
    (foldl_keeps Dock.lanes _ (fun k a => by simp) _ _).trans (by simp),
    (foldl_keeps Dock.rings _ (fun k a => by simp) _ _).trans (by simp),
    (foldl_keeps Dock.slotLimit _ (fun k a => by simp) _ _).trans (by simp),
    (foldl_keeps Dock.flights _ (fun k a => by simp) _ _).trans (by simp),
    (foldl_keeps Dock.plantStop _ (fun k a => by simp) _ _).trans (by simp),
    (foldl_keeps Dock.mask _ (fun k a => by simp) _ _).trans (by simp),
    (foldl_keeps Dock.nodes _ (fun k a => by simp) _ _).trans (by simp)⟩
    · simp
  · simp

@[simp] theorem Dock.recloseExpiry_frame (d : Fin 16) :
    (k.recloseExpiry d).commissioning = k.commissioning ∧
    (k.recloseExpiry d).running = k.running ∧
    (k.recloseExpiry d).offset = k.offset ∧
    (k.recloseExpiry d).probes = k.probes ∧
    (k.recloseExpiry d).classes = k.classes ∧
    (k.recloseExpiry d).lanes = k.lanes ∧
    (k.recloseExpiry d).rings = k.rings ∧
    (k.recloseExpiry d).slotLimit = k.slotLimit ∧
    (k.recloseExpiry d).flights = k.flights ∧
    (k.recloseExpiry d).plantStop = k.plantStop ∧
    (k.recloseExpiry d).mask = k.mask ∧
    (k.recloseExpiry d).nodes = k.nodes := by
  simp only [Dock.recloseExpiry]; (repeat' split) <;> simp

@[simp] theorem Dock.inflateExpiry_frame (d : Fin 16) :
    (k.inflateExpiry d).commissioning = k.commissioning ∧
    (k.inflateExpiry d).running = k.running ∧
    (k.inflateExpiry d).offset = k.offset ∧
    (k.inflateExpiry d).probes = k.probes ∧
    (k.inflateExpiry d).classes = k.classes ∧
    (k.inflateExpiry d).lanes = k.lanes ∧
    (k.inflateExpiry d).rings = k.rings ∧
    (k.inflateExpiry d).slotLimit = k.slotLimit ∧
    (k.inflateExpiry d).flights = k.flights ∧
    (k.inflateExpiry d).plantStop = k.plantStop ∧
    (k.inflateExpiry d).mask = k.mask ∧
    (k.inflateExpiry d).nodes = k.nodes := by
  simp only [Dock.inflateExpiry]; (repeat' split) <;> simp

@[simp] theorem Dock.deflateExpiry_frame (d : Fin 16) :
    (k.deflateExpiry d).commissioning = k.commissioning ∧
    (k.deflateExpiry d).running = k.running ∧
    (k.deflateExpiry d).offset = k.offset ∧
    (k.deflateExpiry d).probes = k.probes ∧
    (k.deflateExpiry d).classes = k.classes ∧
    (k.deflateExpiry d).lanes = k.lanes ∧
    (k.deflateExpiry d).rings = k.rings ∧
    (k.deflateExpiry d).slotLimit = k.slotLimit ∧
    (k.deflateExpiry d).flights = k.flights ∧
    (k.deflateExpiry d).plantStop = k.plantStop ∧
    (k.deflateExpiry d).mask = k.mask ∧
    (k.deflateExpiry d).nodes = k.nodes := by
  simp only [Dock.deflateExpiry]; (repeat' split) <;> simp

@[simp] theorem Dock.travelExpiry_frame (d : Fin 16) :
    (k.travelExpiry d).commissioning = k.commissioning ∧
    (k.travelExpiry d).running = k.running ∧
    (k.travelExpiry d).offset = k.offset ∧
    (k.travelExpiry d).probes = k.probes ∧
    (k.travelExpiry d).classes = k.classes ∧
    (k.travelExpiry d).lanes = k.lanes ∧
    (k.travelExpiry d).rings = k.rings ∧
    (k.travelExpiry d).slotLimit = k.slotLimit ∧
    (k.travelExpiry d).flights = k.flights ∧
    (k.travelExpiry d).plantStop = k.plantStop ∧
    (k.travelExpiry d).mask = k.mask ∧
    (k.travelExpiry d).nodes = k.nodes := by
  simp only [Dock.travelExpiry]; (repeat' split) <;> simp

@[simp] theorem Dock.leakExpiry_frame (d : Fin 16) :
    (k.leakExpiry d).commissioning = k.commissioning ∧
    (k.leakExpiry d).running = k.running ∧
    (k.leakExpiry d).offset = k.offset ∧
    (k.leakExpiry d).probes = k.probes ∧
    (k.leakExpiry d).classes = k.classes ∧
    (k.leakExpiry d).lanes = k.lanes ∧
    (k.leakExpiry d).rings = k.rings ∧
    (k.leakExpiry d).slotLimit = k.slotLimit ∧
    (k.leakExpiry d).flights = k.flights ∧
    (k.leakExpiry d).plantStop = k.plantStop ∧
    (k.leakExpiry d).mask = k.mask ∧
    (k.leakExpiry d).nodes = k.nodes := by
  simp only [Dock.leakExpiry]; (repeat' split) <;> simp

@[simp] theorem Dock.doorsPlantStop_frame :
    (k.doorsPlantStop).commissioning = k.commissioning ∧
    (k.doorsPlantStop).running = k.running ∧
    (k.doorsPlantStop).offset = k.offset ∧
    (k.doorsPlantStop).zones = k.zones ∧
    (k.doorsPlantStop).probes = k.probes ∧
    (k.doorsPlantStop).classes = k.classes ∧
    (k.doorsPlantStop).pallets = k.pallets ∧
    (k.doorsPlantStop).lanes = k.lanes ∧
    (k.doorsPlantStop).rings = k.rings ∧
    (k.doorsPlantStop).defrosts = k.defrosts ∧
    (k.doorsPlantStop).slotLimit = k.slotLimit ∧
    (k.doorsPlantStop).flights = k.flights ∧
    (k.doorsPlantStop).channels = k.channels ∧
    (k.doorsPlantStop).plantStop = k.plantStop ∧
    (k.doorsPlantStop).alarms = k.alarms ∧
    (k.doorsPlantStop).overflow = k.overflow ∧
    (k.doorsPlantStop).mask = k.mask ∧
    (k.doorsPlantStop).alarmLine = k.alarmLine ∧
    (k.doorsPlantStop).nodes = k.nodes ∧
    (k.doorsPlantStop).siteNotices = k.siteNotices ∧
    (k.doorsPlantStop).floorNotices = k.floorNotices := by
  simp [Dock.doorsPlantStop]

@[simp] theorem Dock.doorsPlantRelease_frame :
    (k.doorsPlantRelease).commissioning = k.commissioning ∧
    (k.doorsPlantRelease).running = k.running ∧
    (k.doorsPlantRelease).offset = k.offset ∧
    (k.doorsPlantRelease).zones = k.zones ∧
    (k.doorsPlantRelease).probes = k.probes ∧
    (k.doorsPlantRelease).classes = k.classes ∧
    (k.doorsPlantRelease).pallets = k.pallets ∧
    (k.doorsPlantRelease).lanes = k.lanes ∧
    (k.doorsPlantRelease).rings = k.rings ∧
    (k.doorsPlantRelease).defrosts = k.defrosts ∧
    (k.doorsPlantRelease).slotLimit = k.slotLimit ∧
    (k.doorsPlantRelease).flights = k.flights ∧
    (k.doorsPlantRelease).channels = k.channels ∧
    (k.doorsPlantRelease).plantStop = k.plantStop ∧
    (k.doorsPlantRelease).alarms = k.alarms ∧
    (k.doorsPlantRelease).overflow = k.overflow ∧
    (k.doorsPlantRelease).mask = k.mask ∧
    (k.doorsPlantRelease).alarmLine = k.alarmLine ∧
    (k.doorsPlantRelease).nodes = k.nodes ∧
    (k.doorsPlantRelease).siteNotices = k.siteNotices ∧
    (k.doorsPlantRelease).floorNotices = k.floorNotices := by
  simp [Dock.doorsPlantRelease]

@[simp] theorem Dock.doorNodeLost_frame (d : Fin 16) :
    (k.doorNodeLost d).commissioning = k.commissioning ∧
    (k.doorNodeLost d).running = k.running ∧
    (k.doorNodeLost d).offset = k.offset ∧
    (k.doorNodeLost d).probes = k.probes ∧
    (k.doorNodeLost d).classes = k.classes ∧
    (k.doorNodeLost d).lanes = k.lanes ∧
    (k.doorNodeLost d).rings = k.rings ∧
    (k.doorNodeLost d).slotLimit = k.slotLimit ∧
    (k.doorNodeLost d).flights = k.flights ∧
    (k.doorNodeLost d).plantStop = k.plantStop ∧
    (k.doorNodeLost d).mask = k.mask ∧
    (k.doorNodeLost d).nodes = k.nodes := by
  simp only [Dock.doorNodeLost]; (repeat' split) <;> simp

end Sys2Proof.Machine
end

