-- ==== Sys2Proof/Laws/MoveFrames.lean ====
section
/-! SUPPORT. What the operations of moves and scans leave unchanged: one frame lemma for each. -/

namespace Sys2Proof.Machine

variable {k : Dock}

@[simp] theorem Dock.drainIfEmpty_frame (r : Fin 20) :
    (k.drainIfEmpty r).commissioning = k.commissioning ∧
    (k.drainIfEmpty r).running = k.running ∧
    (k.drainIfEmpty r).offset = k.offset ∧
    (k.drainIfEmpty r).zones = k.zones ∧
    (k.drainIfEmpty r).probes = k.probes ∧
    (k.drainIfEmpty r).classes = k.classes ∧
    (k.drainIfEmpty r).pallets = k.pallets ∧
    (k.drainIfEmpty r).lanes = k.lanes ∧
    (k.drainIfEmpty r).doors = k.doors ∧
    (k.drainIfEmpty r).defrosts = k.defrosts ∧
    (k.drainIfEmpty r).slotLimit = k.slotLimit ∧
    (k.drainIfEmpty r).flights = k.flights ∧
    (k.drainIfEmpty r).channels = k.channels ∧
    (k.drainIfEmpty r).plantStop = k.plantStop ∧
    (k.drainIfEmpty r).alarms = k.alarms ∧
    (k.drainIfEmpty r).overflow = k.overflow ∧
    (k.drainIfEmpty r).mask = k.mask ∧
    (k.drainIfEmpty r).alarmLine = k.alarmLine ∧
    (k.drainIfEmpty r).nodes = k.nodes := by
  simp only [Dock.drainIfEmpty]; (repeat' split) <;> simp

@[simp] theorem Dock.advance_frame (r : Fin 20) (m : Descriptor) :
    (k.advance r m).commissioning = k.commissioning ∧
    (k.advance r m).running = k.running ∧
    (k.advance r m).offset = k.offset ∧
    (k.advance r m).zones = k.zones ∧
    (k.advance r m).probes = k.probes ∧
    (k.advance r m).classes = k.classes ∧
    (k.advance r m).pallets = k.pallets ∧
    (k.advance r m).lanes = k.lanes ∧
    (k.advance r m).doors = k.doors ∧
    (k.advance r m).defrosts = k.defrosts ∧
    (k.advance r m).slotLimit = k.slotLimit ∧
    (k.advance r m).flights = k.flights ∧
    (k.advance r m).channels = k.channels ∧
    (k.advance r m).plantStop = k.plantStop ∧
    (k.advance r m).alarms = k.alarms ∧
    (k.advance r m).overflow = k.overflow ∧
    (k.advance r m).mask = k.mask ∧
    (k.advance r m).alarmLine = k.alarmLine ∧
    (k.advance r m).nodes = k.nodes := by
  simp [Dock.advance]

@[simp] theorem Dock.modTrailer_frame (d : Fin 16) (f : Direction → Direction) :
    (k.modTrailer d f).commissioning = k.commissioning ∧
    (k.modTrailer d f).running = k.running ∧
    (k.modTrailer d f).offset = k.offset ∧
    (k.modTrailer d f).zones = k.zones ∧
    (k.modTrailer d f).probes = k.probes ∧
    (k.modTrailer d f).classes = k.classes ∧
    (k.modTrailer d f).pallets = k.pallets ∧
    (k.modTrailer d f).lanes = k.lanes ∧
    (k.modTrailer d f).rings = k.rings ∧
    (k.modTrailer d f).defrosts = k.defrosts ∧
    (k.modTrailer d f).slotLimit = k.slotLimit ∧
    (k.modTrailer d f).flights = k.flights ∧
    (k.modTrailer d f).channels = k.channels ∧
    (k.modTrailer d f).plantStop = k.plantStop ∧
    (k.modTrailer d f).alarms = k.alarms ∧
    (k.modTrailer d f).overflow = k.overflow ∧
    (k.modTrailer d f).mask = k.mask ∧
    (k.modTrailer d f).alarmLine = k.alarmLine ∧
    (k.modTrailer d f).nodes = k.nodes ∧
    (k.modTrailer d f).siteNotices = k.siteNotices ∧
    (k.modTrailer d f).floorNotices = k.floorNotices := by
  simp [Dock.modTrailer]

@[simp] theorem Dock.destCounts_frame (p : Spot) (f g : Nat → Nat) :
    (k.destCounts p f g).commissioning = k.commissioning ∧
    (k.destCounts p f g).running = k.running ∧
    (k.destCounts p f g).offset = k.offset ∧
    (k.destCounts p f g).zones = k.zones ∧
    (k.destCounts p f g).probes = k.probes ∧
    (k.destCounts p f g).classes = k.classes ∧
    (k.destCounts p f g).pallets = k.pallets ∧
    (k.destCounts p f g).rings = k.rings ∧
    (k.destCounts p f g).defrosts = k.defrosts ∧
    (k.destCounts p f g).slotLimit = k.slotLimit ∧
    (k.destCounts p f g).flights = k.flights ∧
    (k.destCounts p f g).channels = k.channels ∧
    (k.destCounts p f g).plantStop = k.plantStop ∧
    (k.destCounts p f g).alarms = k.alarms ∧
    (k.destCounts p f g).overflow = k.overflow ∧
    (k.destCounts p f g).mask = k.mask ∧
    (k.destCounts p f g).alarmLine = k.alarmLine ∧
    (k.destCounts p f g).nodes = k.nodes ∧
    (k.destCounts p f g).siteNotices = k.siteNotices ∧
    (k.destCounts p f g).floorNotices = k.floorNotices := by
  simp only [Dock.destCounts]; (repeat' split) <;> simp

@[simp] theorem Dock.leaveSource_frame (p : Spot) :
    (k.leaveSource p).commissioning = k.commissioning ∧
    (k.leaveSource p).running = k.running ∧
    (k.leaveSource p).offset = k.offset ∧
    (k.leaveSource p).zones = k.zones ∧
    (k.leaveSource p).probes = k.probes ∧
    (k.leaveSource p).classes = k.classes ∧
    (k.leaveSource p).pallets = k.pallets ∧
    (k.leaveSource p).rings = k.rings ∧
    (k.leaveSource p).doors = k.doors ∧
    (k.leaveSource p).defrosts = k.defrosts ∧
    (k.leaveSource p).slotLimit = k.slotLimit ∧
    (k.leaveSource p).flights = k.flights ∧
    (k.leaveSource p).channels = k.channels ∧
    (k.leaveSource p).plantStop = k.plantStop ∧
    (k.leaveSource p).alarms = k.alarms ∧
    (k.leaveSource p).overflow = k.overflow ∧
    (k.leaveSource p).mask = k.mask ∧
    (k.leaveSource p).alarmLine = k.alarmLine ∧
    (k.leaveSource p).nodes = k.nodes ∧
    (k.leaveSource p).siteNotices = k.siteNotices ∧
    (k.leaveSource p).floorNotices = k.floorNotices := by
  simp only [Dock.leaveSource]; (repeat' split) <;> simp

@[simp] theorem Dock.doorsRise_frame (m : Descriptor) :
    (k.doorsRise m).commissioning = k.commissioning ∧
    (k.doorsRise m).running = k.running ∧
    (k.doorsRise m).offset = k.offset ∧
    (k.doorsRise m).zones = k.zones ∧
    (k.doorsRise m).probes = k.probes ∧
    (k.doorsRise m).classes = k.classes ∧
    (k.doorsRise m).pallets = k.pallets ∧
    (k.doorsRise m).lanes = k.lanes ∧
    (k.doorsRise m).rings = k.rings ∧
    (k.doorsRise m).defrosts = k.defrosts ∧
    (k.doorsRise m).slotLimit = k.slotLimit ∧
    (k.doorsRise m).flights = k.flights ∧
    (k.doorsRise m).channels = k.channels ∧
    (k.doorsRise m).plantStop = k.plantStop ∧
    (k.doorsRise m).alarms = k.alarms ∧
    (k.doorsRise m).overflow = k.overflow ∧
    (k.doorsRise m).mask = k.mask ∧
    (k.doorsRise m).alarmLine = k.alarmLine ∧
    (k.doorsRise m).nodes = k.nodes ∧
    (k.doorsRise m).siteNotices = k.siteNotices ∧
    (k.doorsRise m).floorNotices = k.floorNotices := by
  simp only [Dock.doorsRise]
  exact ⟨foldl_keeps Dock.commissioning _ (fun k a => by simp) _ _,
    foldl_keeps Dock.running _ (fun k a => by simp) _ _,
    foldl_keeps Dock.offset _ (fun k a => by simp) _ _,
    foldl_keeps Dock.zones _ (fun k a => by simp) _ _,
    foldl_keeps Dock.probes _ (fun k a => by simp) _ _,
    foldl_keeps Dock.classes _ (fun k a => by simp) _ _,
    foldl_keeps Dock.pallets _ (fun k a => by simp) _ _,
    foldl_keeps Dock.lanes _ (fun k a => by simp) _ _,
    foldl_keeps Dock.rings _ (fun k a => by simp) _ _,
    foldl_keeps Dock.defrosts _ (fun k a => by simp) _ _,
    foldl_keeps Dock.slotLimit _ (fun k a => by simp) _ _,
    foldl_keeps Dock.flights _ (fun k a => by simp) _ _,
    foldl_keeps Dock.channels _ (fun k a => by simp) _ _,
    foldl_keeps Dock.plantStop _ (fun k a => by simp) _ _,
    foldl_keeps Dock.alarms _ (fun k a => by simp) _ _,
    foldl_keeps Dock.overflow _ (fun k a => by simp) _ _,
    foldl_keeps Dock.mask _ (fun k a => by simp) _ _,
    foldl_keeps Dock.alarmLine _ (fun k a => by simp) _ _,
    foldl_keeps Dock.nodes _ (fun k a => by simp) _ _,
    foldl_keeps Dock.siteNotices _ (fun k a => by simp) _ _,
    foldl_keeps Dock.floorNotices _ (fun k a => by simp) _ _⟩

@[simp] theorem Dock.doorsFall_frame (m : Descriptor) (e : Option (Fin 16)) :
    (k.doorsFall m e).commissioning = k.commissioning ∧
    (k.doorsFall m e).running = k.running ∧
    (k.doorsFall m e).offset = k.offset ∧
    (k.doorsFall m e).probes = k.probes ∧
    (k.doorsFall m e).classes = k.classes ∧
    (k.doorsFall m e).lanes = k.lanes ∧
    (k.doorsFall m e).rings = k.rings ∧
    (k.doorsFall m e).slotLimit = k.slotLimit ∧
    (k.doorsFall m e).flights = k.flights ∧
    (k.doorsFall m e).plantStop = k.plantStop ∧
    (k.doorsFall m e).mask = k.mask ∧
    (k.doorsFall m e).nodes = k.nodes := by
  simp only [Dock.doorsFall]
  exact ⟨foldl_keeps Dock.commissioning _ (fun k a => by simp) _ _,
    foldl_keeps Dock.running _ (fun k a => by simp) _ _,
    foldl_keeps Dock.offset _ (fun k a => by simp) _ _,
    foldl_keeps Dock.probes _ (fun k a => by simp) _ _,
    foldl_keeps Dock.classes _ (fun k a => by simp) _ _,
    foldl_keeps Dock.lanes _ (fun k a => by simp) _ _,
    foldl_keeps Dock.rings _ (fun k a => by simp) _ _,
    foldl_keeps Dock.slotLimit _ (fun k a => by simp) _ _,
    foldl_keeps Dock.flights _ (fun k a => by simp) _ _,
    foldl_keeps Dock.plantStop _ (fun k a => by simp) _ _,
    foldl_keeps Dock.mask _ (fun k a => by simp) _ _,
    foldl_keeps Dock.nodes _ (fun k a => by simp) _ _⟩

@[simp] theorem Dock.moveOver_frame (r : Fin 20) (m : Descriptor) (e : Option (Fin 16)) :
    (k.moveOver r m e).commissioning = k.commissioning ∧
    (k.moveOver r m e).running = k.running ∧
    (k.moveOver r m e).offset = k.offset ∧
    (k.moveOver r m e).probes = k.probes ∧
    (k.moveOver r m e).classes = k.classes ∧
    (k.moveOver r m e).lanes = k.lanes ∧
    (k.moveOver r m e).rings = k.rings ∧
    (k.moveOver r m e).slotLimit = k.slotLimit ∧
    (k.moveOver r m e).plantStop = k.plantStop ∧
    (k.moveOver r m e).mask = k.mask ∧
    (k.moveOver r m e).nodes = k.nodes := by
  simp [Dock.moveOver]

@[simp] theorem Dock.roomQuantum_frame (a b : Option (Fin 8)) :
    (k.roomQuantum a b).commissioning = k.commissioning ∧
    (k.roomQuantum a b).running = k.running ∧
    (k.roomQuantum a b).offset = k.offset ∧
    (k.roomQuantum a b).probes = k.probes ∧
    (k.roomQuantum a b).classes = k.classes ∧
    (k.roomQuantum a b).pallets = k.pallets ∧
    (k.roomQuantum a b).lanes = k.lanes ∧
    (k.roomQuantum a b).rings = k.rings ∧
    (k.roomQuantum a b).doors = k.doors ∧
    (k.roomQuantum a b).slotLimit = k.slotLimit ∧
    (k.roomQuantum a b).flights = k.flights ∧
    (k.roomQuantum a b).plantStop = k.plantStop ∧
    (k.roomQuantum a b).mask = k.mask ∧
    (k.roomQuantum a b).nodes = k.nodes := by
  simp only [Dock.roomQuantum]; (repeat' split) <;> simp

@[simp] theorem Dock.endOverdue_frame (r : Fin 20) (m : Descriptor) :
    (k.endOverdue r m).commissioning = k.commissioning ∧
    (k.endOverdue r m).running = k.running ∧
    (k.endOverdue r m).offset = k.offset ∧
    (k.endOverdue r m).zones = k.zones ∧
    (k.endOverdue r m).probes = k.probes ∧
    (k.endOverdue r m).classes = k.classes ∧
    (k.endOverdue r m).pallets = k.pallets ∧
    (k.endOverdue r m).lanes = k.lanes ∧
    (k.endOverdue r m).rings = k.rings ∧
    (k.endOverdue r m).doors = k.doors ∧
    (k.endOverdue r m).defrosts = k.defrosts ∧
    (k.endOverdue r m).slotLimit = k.slotLimit ∧
    (k.endOverdue r m).flights = k.flights ∧
    (k.endOverdue r m).channels = k.channels ∧
    (k.endOverdue r m).plantStop = k.plantStop ∧
    (k.endOverdue r m).mask = k.mask ∧
    (k.endOverdue r m).nodes = k.nodes := by
  simp only [Dock.endOverdue]; (repeat' split) <;> simp

@[simp] theorem Dock.cancelPicked_frame (r : Fin 20) (m : Descriptor) (e : Option (Fin 16)) :
    (k.cancelPicked r m e).commissioning = k.commissioning ∧
    (k.cancelPicked r m e).running = k.running ∧
    (k.cancelPicked r m e).offset = k.offset ∧
    (k.cancelPicked r m e).probes = k.probes ∧
    (k.cancelPicked r m e).classes = k.classes ∧
    (k.cancelPicked r m e).slotLimit = k.slotLimit ∧
    (k.cancelPicked r m e).plantStop = k.plantStop ∧
    (k.cancelPicked r m e).mask = k.mask ∧
    (k.cancelPicked r m e).nodes = k.nodes := by
  simp only [Dock.cancelPicked]; (repeat' split) <;> simp

@[simp] theorem Dock.cancelThrough_frame (d : Fin 16) :
    (k.cancelThrough d).commissioning = k.commissioning ∧
    (k.cancelThrough d).running = k.running ∧
    (k.cancelThrough d).offset = k.offset ∧
    (k.cancelThrough d).probes = k.probes ∧
    (k.cancelThrough d).classes = k.classes ∧
    (k.cancelThrough d).slotLimit = k.slotLimit ∧
    (k.cancelThrough d).plantStop = k.plantStop ∧
    (k.cancelThrough d).mask = k.mask ∧
    (k.cancelThrough d).nodes = k.nodes := by
  simp only [Dock.cancelThrough]
  exact ⟨foldl_keeps Dock.commissioning _ (fun k a => by (repeat' split) <;> simp) _ _,
    foldl_keeps Dock.running _ (fun k a => by (repeat' split) <;> simp) _ _,
    foldl_keeps Dock.offset _ (fun k a => by (repeat' split) <;> simp) _ _,
    foldl_keeps Dock.probes _ (fun k a => by (repeat' split) <;> simp) _ _,
    foldl_keeps Dock.classes _ (fun k a => by (repeat' split) <;> simp) _ _,
    foldl_keeps Dock.slotLimit _ (fun k a => by (repeat' split) <;> simp) _ _,
    foldl_keeps Dock.plantStop _ (fun k a => by (repeat' split) <;> simp) _ _,
    foldl_keeps Dock.mask _ (fun k a => by (repeat' split) <;> simp) _ _,
    foldl_keeps Dock.nodes _ (fun k a => by (repeat' split) <;> simp) _ _⟩

@[simp] theorem Dock.failRing_frame (d : Fin 16) (r : Fin 20) :
    (k.failRing d r).commissioning = k.commissioning ∧
    (k.failRing d r).running = k.running ∧
    (k.failRing d r).offset = k.offset ∧
    (k.failRing d r).zones = k.zones ∧
    (k.failRing d r).probes = k.probes ∧
    (k.failRing d r).classes = k.classes ∧
    (k.failRing d r).pallets = k.pallets ∧
    (k.failRing d r).lanes = k.lanes ∧
    (k.failRing d r).doors = k.doors ∧
    (k.failRing d r).defrosts = k.defrosts ∧
    (k.failRing d r).slotLimit = k.slotLimit ∧
    (k.failRing d r).flights = k.flights ∧
    (k.failRing d r).channels = k.channels ∧
    (k.failRing d r).plantStop = k.plantStop ∧
    (k.failRing d r).alarms = k.alarms ∧
    (k.failRing d r).overflow = k.overflow ∧
    (k.failRing d r).mask = k.mask ∧
    (k.failRing d r).alarmLine = k.alarmLine ∧
    (k.failRing d r).nodes = k.nodes := by
  simp only [Dock.failRing]; (repeat' split) <;> simp

@[simp] theorem Dock.failTrailer_frame (d : Fin 16) :
    (k.failTrailer d).commissioning = k.commissioning ∧
    (k.failTrailer d).running = k.running ∧
    (k.failTrailer d).offset = k.offset ∧
    (k.failTrailer d).zones = k.zones ∧
    (k.failTrailer d).probes = k.probes ∧
    (k.failTrailer d).classes = k.classes ∧
    (k.failTrailer d).pallets = k.pallets ∧
    (k.failTrailer d).lanes = k.lanes ∧
    (k.failTrailer d).doors = k.doors ∧
    (k.failTrailer d).defrosts = k.defrosts ∧
    (k.failTrailer d).slotLimit = k.slotLimit ∧
    (k.failTrailer d).flights = k.flights ∧
    (k.failTrailer d).channels = k.channels ∧
    (k.failTrailer d).plantStop = k.plantStop ∧
    (k.failTrailer d).alarms = k.alarms ∧
    (k.failTrailer d).overflow = k.overflow ∧
    (k.failTrailer d).mask = k.mask ∧
    (k.failTrailer d).alarmLine = k.alarmLine ∧
    (k.failTrailer d).nodes = k.nodes := by
  simp only [Dock.failTrailer]
  exact ⟨foldl_keeps Dock.commissioning _ (fun k a => by simp) _ _,
    foldl_keeps Dock.running _ (fun k a => by simp) _ _,
    foldl_keeps Dock.offset _ (fun k a => by simp) _ _,
    foldl_keeps Dock.zones _ (fun k a => by simp) _ _,
    foldl_keeps Dock.probes _ (fun k a => by simp) _ _,
    foldl_keeps Dock.classes _ (fun k a => by simp) _ _,
    foldl_keeps Dock.pallets _ (fun k a => by simp) _ _,
    foldl_keeps Dock.lanes _ (fun k a => by simp) _ _,
    foldl_keeps Dock.doors _ (fun k a => by simp) _ _,
    foldl_keeps Dock.defrosts _ (fun k a => by simp) _ _,
    foldl_keeps Dock.slotLimit _ (fun k a => by simp) _ _,
    foldl_keeps Dock.flights _ (fun k a => by simp) _ _,
    foldl_keeps Dock.channels _ (fun k a => by simp) _ _,
    foldl_keeps Dock.plantStop _ (fun k a => by simp) _ _,
    foldl_keeps Dock.alarms _ (fun k a => by simp) _ _,
    foldl_keeps Dock.overflow _ (fun k a => by simp) _ _,
    foldl_keeps Dock.mask _ (fun k a => by simp) _ _,
    foldl_keeps Dock.alarmLine _ (fun k a => by simp) _ _,
    foldl_keeps Dock.nodes _ (fun k a => by simp) _ _⟩

@[simp] theorem Dock.giveVerdict_frame (t : Fin 24) (v : Verdict) (tag : Word) :
    (k.giveVerdict t v tag).commissioning = k.commissioning ∧
    (k.giveVerdict t v tag).running = k.running ∧
    (k.giveVerdict t v tag).offset = k.offset ∧
    (k.giveVerdict t v tag).zones = k.zones ∧
    (k.giveVerdict t v tag).probes = k.probes ∧
    (k.giveVerdict t v tag).classes = k.classes ∧
    (k.giveVerdict t v tag).pallets = k.pallets ∧
    (k.giveVerdict t v tag).lanes = k.lanes ∧
    (k.giveVerdict t v tag).rings = k.rings ∧
    (k.giveVerdict t v tag).doors = k.doors ∧
    (k.giveVerdict t v tag).defrosts = k.defrosts ∧
    (k.giveVerdict t v tag).slotLimit = k.slotLimit ∧
    (k.giveVerdict t v tag).flights = k.flights ∧
    (k.giveVerdict t v tag).channels = k.channels ∧
    (k.giveVerdict t v tag).plantStop = k.plantStop ∧
    (k.giveVerdict t v tag).alarms = k.alarms ∧
    (k.giveVerdict t v tag).overflow = k.overflow ∧
    (k.giveVerdict t v tag).mask = k.mask ∧
    (k.giveVerdict t v tag).alarmLine = k.alarmLine ∧
    (k.giveVerdict t v tag).siteNotices = k.siteNotices ∧
    (k.giveVerdict t v tag).floorNotices = k.floorNotices := by
  simp only [Dock.giveVerdict]; (repeat' split) <;> simp

@[simp] theorem Dock.scanRefused_frame (t : Fin 24) (sc : ScanKind) (tag : Word) (v : Verdict) (g : Option (Fin 20)) :
    (k.scanRefused t sc tag v g).commissioning = k.commissioning ∧
    (k.scanRefused t sc tag v g).running = k.running ∧
    (k.scanRefused t sc tag v g).offset = k.offset ∧
    (k.scanRefused t sc tag v g).zones = k.zones ∧
    (k.scanRefused t sc tag v g).probes = k.probes ∧
    (k.scanRefused t sc tag v g).classes = k.classes ∧
    (k.scanRefused t sc tag v g).pallets = k.pallets ∧
    (k.scanRefused t sc tag v g).lanes = k.lanes ∧
    (k.scanRefused t sc tag v g).rings = k.rings ∧
    (k.scanRefused t sc tag v g).doors = k.doors ∧
    (k.scanRefused t sc tag v g).defrosts = k.defrosts ∧
    (k.scanRefused t sc tag v g).slotLimit = k.slotLimit ∧
    (k.scanRefused t sc tag v g).flights = k.flights ∧
    (k.scanRefused t sc tag v g).channels = k.channels ∧
    (k.scanRefused t sc tag v g).plantStop = k.plantStop ∧
    (k.scanRefused t sc tag v g).alarms = k.alarms ∧
    (k.scanRefused t sc tag v g).overflow = k.overflow ∧
    (k.scanRefused t sc tag v g).mask = k.mask ∧
    (k.scanRefused t sc tag v g).alarmLine = k.alarmLine := by
  simp [Dock.scanRefused]

@[simp] theorem Dock.storeRefusal_frame (r : Fin 20) (v : Verdict) (tag : Word) (t : Fin 24) :
    (k.storeRefusal r v tag t).commissioning = k.commissioning ∧
    (k.storeRefusal r v tag t).running = k.running ∧
    (k.storeRefusal r v tag t).offset = k.offset ∧
    (k.storeRefusal r v tag t).zones = k.zones ∧
    (k.storeRefusal r v tag t).probes = k.probes ∧
    (k.storeRefusal r v tag t).classes = k.classes ∧
    (k.storeRefusal r v tag t).pallets = k.pallets ∧
    (k.storeRefusal r v tag t).lanes = k.lanes ∧
    (k.storeRefusal r v tag t).doors = k.doors ∧
    (k.storeRefusal r v tag t).defrosts = k.defrosts ∧
    (k.storeRefusal r v tag t).slotLimit = k.slotLimit ∧
    (k.storeRefusal r v tag t).flights = k.flights ∧
    (k.storeRefusal r v tag t).channels = k.channels ∧
    (k.storeRefusal r v tag t).plantStop = k.plantStop ∧
    (k.storeRefusal r v tag t).alarms = k.alarms ∧
    (k.storeRefusal r v tag t).overflow = k.overflow ∧
    (k.storeRefusal r v tag t).mask = k.mask ∧
    (k.storeRefusal r v tag t).alarmLine = k.alarmLine ∧
    (k.storeRefusal r v tag t).nodes = k.nodes ∧
    (k.storeRefusal r v tag t).siteNotices = k.siteNotices ∧
    (k.storeRefusal r v tag t).floorNotices = k.floorNotices := by
  simp [Dock.storeRefusal]

@[simp] theorem Dock.acceptPick_frame (t : Fin 24) (r : Fin 20) (m : Descriptor) (slot : Nat) :
    (k.acceptPick t r m slot).commissioning = k.commissioning ∧
    (k.acceptPick t r m slot).running = k.running ∧
    (k.acceptPick t r m slot).offset = k.offset ∧
    (k.acceptPick t r m slot).probes = k.probes ∧
    (k.acceptPick t r m slot).classes = k.classes ∧
    (k.acceptPick t r m slot).slotLimit = k.slotLimit ∧
    (k.acceptPick t r m slot).plantStop = k.plantStop ∧
    (k.acceptPick t r m slot).mask = k.mask := by
  simp [Dock.acceptPick]

@[simp] theorem Dock.unplanned_frame (t : Fin 24) (loc : Spot) (tag : Word) :
    (k.unplanned t loc tag).commissioning = k.commissioning ∧
    (k.unplanned t loc tag).running = k.running ∧
    (k.unplanned t loc tag).offset = k.offset ∧
    (k.unplanned t loc tag).zones = k.zones ∧
    (k.unplanned t loc tag).probes = k.probes ∧
    (k.unplanned t loc tag).classes = k.classes ∧
    (k.unplanned t loc tag).pallets = k.pallets ∧
    (k.unplanned t loc tag).lanes = k.lanes ∧
    (k.unplanned t loc tag).doors = k.doors ∧
    (k.unplanned t loc tag).defrosts = k.defrosts ∧
    (k.unplanned t loc tag).slotLimit = k.slotLimit ∧
    (k.unplanned t loc tag).flights = k.flights ∧
    (k.unplanned t loc tag).channels = k.channels ∧
    (k.unplanned t loc tag).plantStop = k.plantStop ∧
    (k.unplanned t loc tag).mask = k.mask ∧
    (k.unplanned t loc tag).nodes = k.nodes := by
  simp only [Dock.unplanned]; (repeat' split) <;> simp

@[simp] theorem Dock.pickScan_frame (t : Fin 24) (loc : Spot) (tag : Word) :
    (k.pickScan t loc tag).commissioning = k.commissioning ∧
    (k.pickScan t loc tag).running = k.running ∧
    (k.pickScan t loc tag).offset = k.offset ∧
    (k.pickScan t loc tag).probes = k.probes ∧
    (k.pickScan t loc tag).classes = k.classes ∧
    (k.pickScan t loc tag).slotLimit = k.slotLimit ∧
    (k.pickScan t loc tag).plantStop = k.plantStop ∧
    (k.pickScan t loc tag).mask = k.mask := by
  simp only [Dock.pickScan]; (repeat' split) <;> simp

@[simp] theorem Dock.acceptPlace_frame (t : Fin 24) (r : Fin 20) (m : Descriptor) :
    (k.acceptPlace t r m).commissioning = k.commissioning ∧
    (k.acceptPlace t r m).running = k.running ∧
    (k.acceptPlace t r m).offset = k.offset ∧
    (k.acceptPlace t r m).probes = k.probes ∧
    (k.acceptPlace t r m).classes = k.classes ∧
    (k.acceptPlace t r m).slotLimit = k.slotLimit ∧
    (k.acceptPlace t r m).plantStop = k.plantStop ∧
    (k.acceptPlace t r m).mask = k.mask := by
  simp only [Dock.acceptPlace]; (repeat' split) <;> simp

@[simp] theorem Dock.placeScan_frame (t : Fin 24) (loc : Spot) (tag : Word) :
    (k.placeScan t loc tag).commissioning = k.commissioning ∧
    (k.placeScan t loc tag).running = k.running ∧
    (k.placeScan t loc tag).offset = k.offset ∧
    (k.placeScan t loc tag).probes = k.probes ∧
    (k.placeScan t loc tag).classes = k.classes ∧
    (k.placeScan t loc tag).slotLimit = k.slotLimit ∧
    (k.placeScan t loc tag).plantStop = k.plantStop ∧
    (k.placeScan t loc tag).mask = k.mask := by
  simp only [Dock.placeScan]; (repeat' split) <;> simp

@[simp] theorem Dock.scan_frame (t : Fin 24) (sc : ScanKind) (tag : Word) :
    (k.scan t sc tag).commissioning = k.commissioning ∧
    (k.scan t sc tag).running = k.running ∧
    (k.scan t sc tag).offset = k.offset ∧
    (k.scan t sc tag).probes = k.probes ∧
    (k.scan t sc tag).classes = k.classes ∧
    (k.scan t sc tag).slotLimit = k.slotLimit ∧
    (k.scan t sc tag).plantStop = k.plantStop ∧
    (k.scan t sc tag).mask = k.mask := by
  simp only [Dock.scan]; (repeat' split) <;> simp

@[simp] theorem Dock.allowanceExpiry_frame (r : Fin 20) :
    (k.allowanceExpiry r).commissioning = k.commissioning ∧
    (k.allowanceExpiry r).running = k.running ∧
    (k.allowanceExpiry r).offset = k.offset ∧
    (k.allowanceExpiry r).zones = k.zones ∧
    (k.allowanceExpiry r).probes = k.probes ∧
    (k.allowanceExpiry r).classes = k.classes ∧
    (k.allowanceExpiry r).pallets = k.pallets ∧
    (k.allowanceExpiry r).lanes = k.lanes ∧
    (k.allowanceExpiry r).doors = k.doors ∧
    (k.allowanceExpiry r).defrosts = k.defrosts ∧
    (k.allowanceExpiry r).slotLimit = k.slotLimit ∧
    (k.allowanceExpiry r).flights = k.flights ∧
    (k.allowanceExpiry r).channels = k.channels ∧
    (k.allowanceExpiry r).plantStop = k.plantStop ∧
    (k.allowanceExpiry r).mask = k.mask ∧
    (k.allowanceExpiry r).nodes = k.nodes := by
  simp only [Dock.allowanceExpiry]; (repeat' split) <;> simp

@[simp] theorem Dock.recount_frame :
    (k.recount).commissioning = k.commissioning ∧
    (k.recount).running = k.running ∧
    (k.recount).offset = k.offset ∧
    (k.recount).zones = k.zones ∧
    (k.recount).probes = k.probes ∧
    (k.recount).classes = k.classes ∧
    (k.recount).pallets = k.pallets ∧
    (k.recount).rings = k.rings ∧
    (k.recount).defrosts = k.defrosts ∧
    (k.recount).slotLimit = k.slotLimit ∧
    (k.recount).flights = k.flights ∧
    (k.recount).channels = k.channels ∧
    (k.recount).plantStop = k.plantStop ∧
    (k.recount).alarms = k.alarms ∧
    (k.recount).overflow = k.overflow ∧
    (k.recount).mask = k.mask ∧
    (k.recount).alarmLine = k.alarmLine ∧
    (k.recount).nodes = k.nodes ∧
    (k.recount).siteNotices = k.siteNotices ∧
    (k.recount).floorNotices = k.floorNotices := by
  simp [Dock.recount]

end Sys2Proof.Machine
end

