-- ==== Sys2Proof/Laws/ReportFrames.lean ====
section
/-! SUPPORT. What the operations of reports, zone updates and node outcomes leave unchanged: one frame lemma for each. -/

namespace Sys2Proof.Machine

variable {k : Dock}

@[simp] theorem Dock.removeTrailer_frame (d : Fin 16) :
    (k.removeTrailer d).commissioning = k.commissioning ∧
    (k.removeTrailer d).running = k.running ∧
    (k.removeTrailer d).offset = k.offset ∧
    (k.removeTrailer d).zones = k.zones ∧
    (k.removeTrailer d).probes = k.probes ∧
    (k.removeTrailer d).classes = k.classes ∧
    (k.removeTrailer d).lanes = k.lanes ∧
    (k.removeTrailer d).defrosts = k.defrosts ∧
    (k.removeTrailer d).slotLimit = k.slotLimit ∧
    (k.removeTrailer d).flights = k.flights ∧
    (k.removeTrailer d).channels = k.channels ∧
    (k.removeTrailer d).plantStop = k.plantStop ∧
    (k.removeTrailer d).mask = k.mask ∧
    (k.removeTrailer d).nodes = k.nodes := by
  simp [Dock.removeTrailer]

@[simp] theorem Dock.trailerLeft_frame (d : Fin 16) :
    (k.trailerLeft d).commissioning = k.commissioning ∧
    (k.trailerLeft d).running = k.running ∧
    (k.trailerLeft d).offset = k.offset ∧
    (k.trailerLeft d).probes = k.probes ∧
    (k.trailerLeft d).classes = k.classes ∧
    (k.trailerLeft d).slotLimit = k.slotLimit ∧
    (k.trailerLeft d).plantStop = k.plantStop ∧
    (k.trailerLeft d).mask = k.mask ∧
    (k.trailerLeft d).nodes = k.nodes := by
  simp only [Dock.trailerLeft]; (repeat' split) <;> simp

@[simp] theorem Dock.closeWaitExpiry_frame (d : Fin 16) :
    (k.closeWaitExpiry d).commissioning = k.commissioning ∧
    (k.closeWaitExpiry d).running = k.running ∧
    (k.closeWaitExpiry d).offset = k.offset ∧
    (k.closeWaitExpiry d).probes = k.probes ∧
    (k.closeWaitExpiry d).classes = k.classes ∧
    (k.closeWaitExpiry d).slotLimit = k.slotLimit ∧
    (k.closeWaitExpiry d).plantStop = k.plantStop ∧
    (k.closeWaitExpiry d).mask = k.mask ∧
    (k.closeWaitExpiry d).nodes = k.nodes := by
  simp only [Dock.closeWaitExpiry]; (repeat' split) <;> simp

@[simp] theorem Dock.recordReport_frame (d : Fin 16) (rep : DoorReport) :
    (k.recordReport d rep).commissioning = k.commissioning ∧
    (k.recordReport d rep).running = k.running ∧
    (k.recordReport d rep).offset = k.offset ∧
    (k.recordReport d rep).zones = k.zones ∧
    (k.recordReport d rep).probes = k.probes ∧
    (k.recordReport d rep).classes = k.classes ∧
    (k.recordReport d rep).pallets = k.pallets ∧
    (k.recordReport d rep).lanes = k.lanes ∧
    (k.recordReport d rep).rings = k.rings ∧
    (k.recordReport d rep).defrosts = k.defrosts ∧
    (k.recordReport d rep).slotLimit = k.slotLimit ∧
    (k.recordReport d rep).flights = k.flights ∧
    (k.recordReport d rep).channels = k.channels ∧
    (k.recordReport d rep).plantStop = k.plantStop ∧
    (k.recordReport d rep).alarms = k.alarms ∧
    (k.recordReport d rep).overflow = k.overflow ∧
    (k.recordReport d rep).mask = k.mask ∧
    (k.recordReport d rep).alarmLine = k.alarmLine ∧
    (k.recordReport d rep).nodes = k.nodes ∧
    (k.recordReport d rep).siteNotices = k.siteNotices ∧
    (k.recordReport d rep).floorNotices = k.floorNotices := by
  simp [Dock.recordReport]

@[simp] theorem Dock.derive_frame (d : Fin 16) (rep : DoorReport) :
    (k.derive d rep).commissioning = k.commissioning ∧
    (k.derive d rep).running = k.running ∧
    (k.derive d rep).offset = k.offset ∧
    (k.derive d rep).probes = k.probes ∧
    (k.derive d rep).classes = k.classes ∧
    (k.derive d rep).lanes = k.lanes ∧
    (k.derive d rep).slotLimit = k.slotLimit ∧
    (k.derive d rep).flights = k.flights ∧
    (k.derive d rep).plantStop = k.plantStop ∧
    (k.derive d rep).mask = k.mask ∧
    (k.derive d rep).nodes = k.nodes := by
  simp only [Dock.derive]; (repeat' split) <;> simp

@[simp] theorem Dock.actPresence_frame (d : Fin 16) (rep : DoorReport) :
    (k.actPresence d rep).commissioning = k.commissioning ∧
    (k.actPresence d rep).running = k.running ∧
    (k.actPresence d rep).offset = k.offset ∧
    (k.actPresence d rep).probes = k.probes ∧
    (k.actPresence d rep).classes = k.classes ∧
    (k.actPresence d rep).slotLimit = k.slotLimit ∧
    (k.actPresence d rep).plantStop = k.plantStop ∧
    (k.actPresence d rep).mask = k.mask ∧
    (k.actPresence d rep).nodes = k.nodes := by
  simp only [Dock.actPresence]; (repeat' split) <;> simp

@[simp] theorem Dock.forced_frame (d : Fin 16) :
    (k.forced d).commissioning = k.commissioning ∧
    (k.forced d).running = k.running ∧
    (k.forced d).offset = k.offset ∧
    (k.forced d).probes = k.probes ∧
    (k.forced d).classes = k.classes ∧
    (k.forced d).lanes = k.lanes ∧
    (k.forced d).rings = k.rings ∧
    (k.forced d).slotLimit = k.slotLimit ∧
    (k.forced d).flights = k.flights ∧
    (k.forced d).plantStop = k.plantStop ∧
    (k.forced d).mask = k.mask ∧
    (k.forced d).nodes = k.nodes := by
  simp [Dock.forced]

@[simp] theorem Dock.actObstruction_frame (d : Fin 16) (rep : DoorReport) :
    (k.actObstruction d rep).commissioning = k.commissioning ∧
    (k.actObstruction d rep).running = k.running ∧
    (k.actObstruction d rep).offset = k.offset ∧
    (k.actObstruction d rep).probes = k.probes ∧
    (k.actObstruction d rep).classes = k.classes ∧
    (k.actObstruction d rep).lanes = k.lanes ∧
    (k.actObstruction d rep).rings = k.rings ∧
    (k.actObstruction d rep).slotLimit = k.slotLimit ∧
    (k.actObstruction d rep).flights = k.flights ∧
    (k.actObstruction d rep).plantStop = k.plantStop ∧
    (k.actObstruction d rep).mask = k.mask ∧
    (k.actObstruction d rep).nodes = k.nodes := by
  simp only [Dock.actObstruction]; (repeat' split) <;> simp

@[simp] theorem Dock.completeClose_frame (d : Fin 16) :
    (k.completeClose d).commissioning = k.commissioning ∧
    (k.completeClose d).running = k.running ∧
    (k.completeClose d).offset = k.offset ∧
    (k.completeClose d).probes = k.probes ∧
    (k.completeClose d).classes = k.classes ∧
    (k.completeClose d).lanes = k.lanes ∧
    (k.completeClose d).rings = k.rings ∧
    (k.completeClose d).slotLimit = k.slotLimit ∧
    (k.completeClose d).flights = k.flights ∧
    (k.completeClose d).plantStop = k.plantStop ∧
    (k.completeClose d).mask = k.mask ∧
    (k.completeClose d).nodes = k.nodes := by
  simp only [Dock.completeClose]; (repeat' split) <;> simp

@[simp] theorem Dock.actTravel_frame (d : Fin 16) (rep : DoorReport) :
    (k.actTravel d rep).commissioning = k.commissioning ∧
    (k.actTravel d rep).running = k.running ∧
    (k.actTravel d rep).offset = k.offset ∧
    (k.actTravel d rep).probes = k.probes ∧
    (k.actTravel d rep).classes = k.classes ∧
    (k.actTravel d rep).lanes = k.lanes ∧
    (k.actTravel d rep).rings = k.rings ∧
    (k.actTravel d rep).slotLimit = k.slotLimit ∧
    (k.actTravel d rep).flights = k.flights ∧
    (k.actTravel d rep).plantStop = k.plantStop ∧
    (k.actTravel d rep).mask = k.mask ∧
    (k.actTravel d rep).nodes = k.nodes := by
  simp only [Dock.actTravel]; (repeat' split) <;> simp

@[simp] theorem Dock.actLeak_frame (d : Fin 16) (rep : DoorReport) :
    (k.actLeak d rep).commissioning = k.commissioning ∧
    (k.actLeak d rep).running = k.running ∧
    (k.actLeak d rep).offset = k.offset ∧
    (k.actLeak d rep).zones = k.zones ∧
    (k.actLeak d rep).probes = k.probes ∧
    (k.actLeak d rep).classes = k.classes ∧
    (k.actLeak d rep).pallets = k.pallets ∧
    (k.actLeak d rep).lanes = k.lanes ∧
    (k.actLeak d rep).rings = k.rings ∧
    (k.actLeak d rep).defrosts = k.defrosts ∧
    (k.actLeak d rep).slotLimit = k.slotLimit ∧
    (k.actLeak d rep).flights = k.flights ∧
    (k.actLeak d rep).channels = k.channels ∧
    (k.actLeak d rep).plantStop = k.plantStop ∧
    (k.actLeak d rep).alarms = k.alarms ∧
    (k.actLeak d rep).overflow = k.overflow ∧
    (k.actLeak d rep).mask = k.mask ∧
    (k.actLeak d rep).alarmLine = k.alarmLine ∧
    (k.actLeak d rep).nodes = k.nodes ∧
    (k.actLeak d rep).siteNotices = k.siteNotices ∧
    (k.actLeak d rep).floorNotices = k.floorNotices := by
  simp only [Dock.actLeak]; (repeat' split) <;> simp

@[simp] theorem Dock.actPressure_frame (d : Fin 16) (rep : DoorReport) :
    (k.actPressure d rep).commissioning = k.commissioning ∧
    (k.actPressure d rep).running = k.running ∧
    (k.actPressure d rep).offset = k.offset ∧
    (k.actPressure d rep).probes = k.probes ∧
    (k.actPressure d rep).classes = k.classes ∧
    (k.actPressure d rep).lanes = k.lanes ∧
    (k.actPressure d rep).rings = k.rings ∧
    (k.actPressure d rep).slotLimit = k.slotLimit ∧
    (k.actPressure d rep).flights = k.flights ∧
    (k.actPressure d rep).plantStop = k.plantStop ∧
    (k.actPressure d rep).mask = k.mask ∧
    (k.actPressure d rep).nodes = k.nodes := by
  simp only [Dock.actPressure]; (repeat' split) <;> simp

@[simp] theorem Dock.actRest_frame (d : Fin 16) (rep : DoorReport) :
    (k.actRest d rep).commissioning = k.commissioning ∧
    (k.actRest d rep).running = k.running ∧
    (k.actRest d rep).offset = k.offset ∧
    (k.actRest d rep).probes = k.probes ∧
    (k.actRest d rep).classes = k.classes ∧
    (k.actRest d rep).lanes = k.lanes ∧
    (k.actRest d rep).rings = k.rings ∧
    (k.actRest d rep).slotLimit = k.slotLimit ∧
    (k.actRest d rep).flights = k.flights ∧
    (k.actRest d rep).plantStop = k.plantStop ∧
    (k.actRest d rep).mask = k.mask ∧
    (k.actRest d rep).nodes = k.nodes := by
  simp [Dock.actRest]

@[simp] theorem Dock.doorReport_frame (d : Fin 16) (rep : DoorReport) :
    (k.doorReport d rep).commissioning = k.commissioning ∧
    (k.doorReport d rep).running = k.running ∧
    (k.doorReport d rep).offset = k.offset ∧
    (k.doorReport d rep).probes = k.probes ∧
    (k.doorReport d rep).classes = k.classes ∧
    (k.doorReport d rep).slotLimit = k.slotLimit ∧
    (k.doorReport d rep).plantStop = k.plantStop ∧
    (k.doorReport d rep).mask = k.mask ∧
    (k.doorReport d rep).nodes = k.nodes := by
  simp only [Dock.doorReport]; (repeat' split) <;> simp

@[simp] theorem Dock.takeReading_frame (p : Fin 32) (raw : Int) :
    (k.takeReading p raw).commissioning = k.commissioning ∧
    (k.takeReading p raw).running = k.running ∧
    (k.takeReading p raw).offset = k.offset ∧
    (k.takeReading p raw).zones = k.zones ∧
    (k.takeReading p raw).classes = k.classes ∧
    (k.takeReading p raw).pallets = k.pallets ∧
    (k.takeReading p raw).lanes = k.lanes ∧
    (k.takeReading p raw).rings = k.rings ∧
    (k.takeReading p raw).doors = k.doors ∧
    (k.takeReading p raw).defrosts = k.defrosts ∧
    (k.takeReading p raw).slotLimit = k.slotLimit ∧
    (k.takeReading p raw).flights = k.flights ∧
    (k.takeReading p raw).channels = k.channels ∧
    (k.takeReading p raw).plantStop = k.plantStop ∧
    (k.takeReading p raw).mask = k.mask ∧
    (k.takeReading p raw).nodes = k.nodes := by
  simp only [Dock.takeReading]; (repeat' split) <;> simp

@[simp] theorem Dock.intake_frame (z : Fin 8) (rs : List Int) :
    (k.intake z rs).commissioning = k.commissioning ∧
    (k.intake z rs).running = k.running ∧
    (k.intake z rs).offset = k.offset ∧
    (k.intake z rs).zones = k.zones ∧
    (k.intake z rs).classes = k.classes ∧
    (k.intake z rs).pallets = k.pallets ∧
    (k.intake z rs).lanes = k.lanes ∧
    (k.intake z rs).rings = k.rings ∧
    (k.intake z rs).doors = k.doors ∧
    (k.intake z rs).defrosts = k.defrosts ∧
    (k.intake z rs).slotLimit = k.slotLimit ∧
    (k.intake z rs).flights = k.flights ∧
    (k.intake z rs).channels = k.channels ∧
    (k.intake z rs).plantStop = k.plantStop ∧
    (k.intake z rs).mask = k.mask ∧
    (k.intake z rs).nodes = k.nodes := by
  simp only [Dock.intake]
  exact ⟨foldl_keeps Dock.commissioning _ (fun k a => by simp) _ _,
    foldl_keeps Dock.running _ (fun k a => by simp) _ _,
    foldl_keeps Dock.offset _ (fun k a => by simp) _ _,
    foldl_keeps Dock.zones _ (fun k a => by simp) _ _,
    foldl_keeps Dock.classes _ (fun k a => by simp) _ _,
    foldl_keeps Dock.pallets _ (fun k a => by simp) _ _,
    foldl_keeps Dock.lanes _ (fun k a => by simp) _ _,
    foldl_keeps Dock.rings _ (fun k a => by simp) _ _,
    foldl_keeps Dock.doors _ (fun k a => by simp) _ _,
    foldl_keeps Dock.defrosts _ (fun k a => by simp) _ _,
    foldl_keeps Dock.slotLimit _ (fun k a => by simp) _ _,
    foldl_keeps Dock.flights _ (fun k a => by simp) _ _,
    foldl_keeps Dock.channels _ (fun k a => by simp) _ _,
    foldl_keeps Dock.plantStop _ (fun k a => by simp) _ _,
    foldl_keeps Dock.mask _ (fun k a => by simp) _ _,
    foldl_keeps Dock.nodes _ (fun k a => by simp) _ _⟩

@[simp] theorem Dock.substitute_frame (z : Fin 8) :
    (k.substitute z).commissioning = k.commissioning ∧
    (k.substitute z).running = k.running ∧
    (k.substitute z).offset = k.offset ∧
    (k.substitute z).probes = k.probes ∧
    (k.substitute z).classes = k.classes ∧
    (k.substitute z).pallets = k.pallets ∧
    (k.substitute z).lanes = k.lanes ∧
    (k.substitute z).rings = k.rings ∧
    (k.substitute z).doors = k.doors ∧
    (k.substitute z).defrosts = k.defrosts ∧
    (k.substitute z).slotLimit = k.slotLimit ∧
    (k.substitute z).flights = k.flights ∧
    (k.substitute z).channels = k.channels ∧
    (k.substitute z).plantStop = k.plantStop ∧
    (k.substitute z).mask = k.mask ∧
    (k.substitute z).nodes = k.nodes := by
  simp only [Dock.substitute]; (repeat' split) <;> simp

@[simp] theorem Dock.measured_frame (z : Fin 8) (cs : List Int) :
    (k.measured z cs).commissioning = k.commissioning ∧
    (k.measured z cs).running = k.running ∧
    (k.measured z cs).offset = k.offset ∧
    (k.measured z cs).probes = k.probes ∧
    (k.measured z cs).classes = k.classes ∧
    (k.measured z cs).pallets = k.pallets ∧
    (k.measured z cs).lanes = k.lanes ∧
    (k.measured z cs).rings = k.rings ∧
    (k.measured z cs).doors = k.doors ∧
    (k.measured z cs).defrosts = k.defrosts ∧
    (k.measured z cs).slotLimit = k.slotLimit ∧
    (k.measured z cs).flights = k.flights ∧
    (k.measured z cs).channels = k.channels ∧
    (k.measured z cs).plantStop = k.plantStop ∧
    (k.measured z cs).mask = k.mask ∧
    (k.measured z cs).nodes = k.nodes := by
  simp only [Dock.measured]; (repeat' split) <;> simp

@[simp] theorem Dock.newTemperature_frame (z : Fin 8) :
    (k.newTemperature z).commissioning = k.commissioning ∧
    (k.newTemperature z).running = k.running ∧
    (k.newTemperature z).offset = k.offset ∧
    (k.newTemperature z).probes = k.probes ∧
    (k.newTemperature z).classes = k.classes ∧
    (k.newTemperature z).pallets = k.pallets ∧
    (k.newTemperature z).lanes = k.lanes ∧
    (k.newTemperature z).rings = k.rings ∧
    (k.newTemperature z).doors = k.doors ∧
    (k.newTemperature z).defrosts = k.defrosts ∧
    (k.newTemperature z).slotLimit = k.slotLimit ∧
    (k.newTemperature z).flights = k.flights ∧
    (k.newTemperature z).channels = k.channels ∧
    (k.newTemperature z).plantStop = k.plantStop ∧
    (k.newTemperature z).mask = k.mask ∧
    (k.newTemperature z).nodes = k.nodes := by
  simp only [Dock.newTemperature]; (repeat' split) <;> simp

@[simp] theorem Dock.restartRefresh_frame (z : Fin 8) :
    (k.restartRefresh z).commissioning = k.commissioning ∧
    (k.restartRefresh z).running = k.running ∧
    (k.restartRefresh z).offset = k.offset ∧
    (k.restartRefresh z).probes = k.probes ∧
    (k.restartRefresh z).classes = k.classes ∧
    (k.restartRefresh z).pallets = k.pallets ∧
    (k.restartRefresh z).lanes = k.lanes ∧
    (k.restartRefresh z).rings = k.rings ∧
    (k.restartRefresh z).doors = k.doors ∧
    (k.restartRefresh z).defrosts = k.defrosts ∧
    (k.restartRefresh z).slotLimit = k.slotLimit ∧
    (k.restartRefresh z).flights = k.flights ∧
    (k.restartRefresh z).channels = k.channels ∧
    (k.restartRefresh z).plantStop = k.plantStop ∧
    (k.restartRefresh z).alarms = k.alarms ∧
    (k.restartRefresh z).overflow = k.overflow ∧
    (k.restartRefresh z).mask = k.mask ∧
    (k.restartRefresh z).alarmLine = k.alarmLine ∧
    (k.restartRefresh z).nodes = k.nodes ∧
    (k.restartRefresh z).siteNotices = k.siteNotices ∧
    (k.restartRefresh z).floorNotices = k.floorNotices := by
  simp [Dock.restartRefresh]

@[simp] theorem Dock.feedDoors_frame (z : Fin 8) :
    (k.feedDoors z).commissioning = k.commissioning ∧
    (k.feedDoors z).running = k.running ∧
    (k.feedDoors z).offset = k.offset ∧
    (k.feedDoors z).probes = k.probes ∧
    (k.feedDoors z).classes = k.classes ∧
    (k.feedDoors z).pallets = k.pallets ∧
    (k.feedDoors z).lanes = k.lanes ∧
    (k.feedDoors z).rings = k.rings ∧
    (k.feedDoors z).slotLimit = k.slotLimit ∧
    (k.feedDoors z).flights = k.flights ∧
    (k.feedDoors z).plantStop = k.plantStop ∧
    (k.feedDoors z).mask = k.mask ∧
    (k.feedDoors z).nodes = k.nodes := by
  simp only [Dock.feedDoors]
  split
  · exact ⟨foldl_keeps Dock.commissioning _ (fun k a => by simp) _ _,
    foldl_keeps Dock.running _ (fun k a => by simp) _ _,
    foldl_keeps Dock.offset _ (fun k a => by simp) _ _,
    foldl_keeps Dock.probes _ (fun k a => by simp) _ _,
    foldl_keeps Dock.classes _ (fun k a => by simp) _ _,
    foldl_keeps Dock.pallets _ (fun k a => by simp) _ _,
    foldl_keeps Dock.lanes _ (fun k a => by simp) _ _,
    foldl_keeps Dock.rings _ (fun k a => by simp) _ _,
    foldl_keeps Dock.slotLimit _ (fun k a => by simp) _ _,
    foldl_keeps Dock.flights _ (fun k a => by simp) _ _,
    foldl_keeps Dock.plantStop _ (fun k a => by simp) _ _,
    foldl_keeps Dock.mask _ (fun k a => by simp) _ _,
    foldl_keeps Dock.nodes _ (fun k a => by simp) _ _⟩
  · simp

@[simp] theorem Dock.handOff_frame (z : Fin 8) :
    (k.handOff z).commissioning = k.commissioning ∧
    (k.handOff z).running = k.running ∧
    (k.handOff z).offset = k.offset ∧
    (k.handOff z).probes = k.probes ∧
    (k.handOff z).classes = k.classes ∧
    (k.handOff z).pallets = k.pallets ∧
    (k.handOff z).lanes = k.lanes ∧
    (k.handOff z).rings = k.rings ∧
    (k.handOff z).slotLimit = k.slotLimit ∧
    (k.handOff z).flights = k.flights ∧
    (k.handOff z).plantStop = k.plantStop ∧
    (k.handOff z).mask = k.mask ∧
    (k.handOff z).nodes = k.nodes := by
  simp [Dock.handOff]

@[simp] theorem Dock.zoneUpdate_frame (z : Fin 8) (rs : Option (List Int)) :
    (k.zoneUpdate z rs).commissioning = k.commissioning ∧
    (k.zoneUpdate z rs).running = k.running ∧
    (k.zoneUpdate z rs).offset = k.offset ∧
    (k.zoneUpdate z rs).classes = k.classes ∧
    (k.zoneUpdate z rs).lanes = k.lanes ∧
    (k.zoneUpdate z rs).rings = k.rings ∧
    (k.zoneUpdate z rs).slotLimit = k.slotLimit ∧
    (k.zoneUpdate z rs).flights = k.flights ∧
    (k.zoneUpdate z rs).plantStop = k.plantStop ∧
    (k.zoneUpdate z rs).mask = k.mask ∧
    (k.zoneUpdate z rs).nodes = k.nodes := by
  simp only [Dock.zoneUpdate]; (repeat' split) <;> simp

@[simp] theorem Dock.stalenessExpiry_frame (p : Fin 32) :
    (k.stalenessExpiry p).commissioning = k.commissioning ∧
    (k.stalenessExpiry p).running = k.running ∧
    (k.stalenessExpiry p).offset = k.offset ∧
    (k.stalenessExpiry p).classes = k.classes ∧
    (k.stalenessExpiry p).lanes = k.lanes ∧
    (k.stalenessExpiry p).rings = k.rings ∧
    (k.stalenessExpiry p).slotLimit = k.slotLimit ∧
    (k.stalenessExpiry p).flights = k.flights ∧
    (k.stalenessExpiry p).plantStop = k.plantStop ∧
    (k.stalenessExpiry p).mask = k.mask ∧
    (k.stalenessExpiry p).nodes = k.nodes := by
  simp only [Dock.stalenessExpiry]; (repeat' split) <;> simp

@[simp] theorem Dock.refreshExpiry_frame (z : Fin 8) :
    (k.refreshExpiry z).commissioning = k.commissioning ∧
    (k.refreshExpiry z).running = k.running ∧
    (k.refreshExpiry z).offset = k.offset ∧
    (k.refreshExpiry z).classes = k.classes ∧
    (k.refreshExpiry z).lanes = k.lanes ∧
    (k.refreshExpiry z).rings = k.rings ∧
    (k.refreshExpiry z).slotLimit = k.slotLimit ∧
    (k.refreshExpiry z).flights = k.flights ∧
    (k.refreshExpiry z).plantStop = k.plantStop ∧
    (k.refreshExpiry z).mask = k.mask ∧
    (k.refreshExpiry z).nodes = k.nodes := by
  simp only [Dock.refreshExpiry]; (repeat' split) <;> simp

@[simp] theorem Dock.nodeAnswered_frame (n : Fin 48) :
    (k.nodeAnswered n).commissioning = k.commissioning ∧
    (k.nodeAnswered n).running = k.running ∧
    (k.nodeAnswered n).offset = k.offset ∧
    (k.nodeAnswered n).zones = k.zones ∧
    (k.nodeAnswered n).probes = k.probes ∧
    (k.nodeAnswered n).classes = k.classes ∧
    (k.nodeAnswered n).pallets = k.pallets ∧
    (k.nodeAnswered n).lanes = k.lanes ∧
    (k.nodeAnswered n).rings = k.rings ∧
    (k.nodeAnswered n).doors = k.doors ∧
    (k.nodeAnswered n).defrosts = k.defrosts ∧
    (k.nodeAnswered n).slotLimit = k.slotLimit ∧
    (k.nodeAnswered n).flights = k.flights ∧
    (k.nodeAnswered n).channels = k.channels ∧
    (k.nodeAnswered n).plantStop = k.plantStop ∧
    (k.nodeAnswered n).mask = k.mask := by
  simp only [Dock.nodeAnswered]; (repeat' split) <;> simp

@[simp] theorem Dock.reportFeedback_frame (c1 c2 : Fin 48) (f1 f2 : Option Level) :
    (k.reportFeedback c1 c2 f1 f2).commissioning = k.commissioning ∧
    (k.reportFeedback c1 c2 f1 f2).running = k.running ∧
    (k.reportFeedback c1 c2 f1 f2).offset = k.offset ∧
    (k.reportFeedback c1 c2 f1 f2).zones = k.zones ∧
    (k.reportFeedback c1 c2 f1 f2).probes = k.probes ∧
    (k.reportFeedback c1 c2 f1 f2).classes = k.classes ∧
    (k.reportFeedback c1 c2 f1 f2).pallets = k.pallets ∧
    (k.reportFeedback c1 c2 f1 f2).lanes = k.lanes ∧
    (k.reportFeedback c1 c2 f1 f2).rings = k.rings ∧
    (k.reportFeedback c1 c2 f1 f2).doors = k.doors ∧
    (k.reportFeedback c1 c2 f1 f2).defrosts = k.defrosts ∧
    (k.reportFeedback c1 c2 f1 f2).slotLimit = k.slotLimit ∧
    (k.reportFeedback c1 c2 f1 f2).flights = k.flights ∧
    (k.reportFeedback c1 c2 f1 f2).plantStop = k.plantStop ∧
    (k.reportFeedback c1 c2 f1 f2).mask = k.mask ∧
    (k.reportFeedback c1 c2 f1 f2).nodes = k.nodes := by
  simp [Dock.reportFeedback]

@[simp] theorem Dock.handDoorReport_frame (d : Fin 16) (rep : DoorReport) (b e : Option Level) :
    (k.handDoorReport d rep b e).commissioning = k.commissioning ∧
    (k.handDoorReport d rep b e).running = k.running ∧
    (k.handDoorReport d rep b e).offset = k.offset ∧
    (k.handDoorReport d rep b e).probes = k.probes ∧
    (k.handDoorReport d rep b e).classes = k.classes ∧
    (k.handDoorReport d rep b e).slotLimit = k.slotLimit ∧
    (k.handDoorReport d rep b e).plantStop = k.plantStop ∧
    (k.handDoorReport d rep b e).mask = k.mask ∧
    (k.handDoorReport d rep b e).nodes = k.nodes := by
  simp [Dock.handDoorReport]

@[simp] theorem Dock.handZoneReport_frame (z : Fin 8) (rs : List Int) (coil : Option Int) (h e : Option Level) :
    (k.handZoneReport z rs coil h e).commissioning = k.commissioning ∧
    (k.handZoneReport z rs coil h e).running = k.running ∧
    (k.handZoneReport z rs coil h e).offset = k.offset ∧
    (k.handZoneReport z rs coil h e).classes = k.classes ∧
    (k.handZoneReport z rs coil h e).lanes = k.lanes ∧
    (k.handZoneReport z rs coil h e).rings = k.rings ∧
    (k.handZoneReport z rs coil h e).slotLimit = k.slotLimit ∧
    (k.handZoneReport z rs coil h e).flights = k.flights ∧
    (k.handZoneReport z rs coil h e).plantStop = k.plantStop ∧
    (k.handZoneReport z rs coil h e).mask = k.mask ∧
    (k.handZoneReport z rs coil h e).nodes = k.nodes := by
  simp [Dock.handZoneReport]

@[simp] theorem Dock.goodReply_frame (n : Fin 48) (rep : Report) :
    (k.goodReply n rep).commissioning = k.commissioning ∧
    (k.goodReply n rep).running = k.running ∧
    (k.goodReply n rep).offset = k.offset ∧
    (k.goodReply n rep).classes = k.classes ∧
    (k.goodReply n rep).slotLimit = k.slotLimit ∧
    (k.goodReply n rep).plantStop = k.plantStop ∧
    (k.goodReply n rep).mask = k.mask := by
  simp only [Dock.goodReply]; (repeat' split) <;> simp

@[simp] theorem Dock.tellLoss_frame (n : Fin 48) :
    (k.tellLoss n).commissioning = k.commissioning ∧
    (k.tellLoss n).running = k.running ∧
    (k.tellLoss n).offset = k.offset ∧
    (k.tellLoss n).probes = k.probes ∧
    (k.tellLoss n).classes = k.classes ∧
    (k.tellLoss n).lanes = k.lanes ∧
    (k.tellLoss n).rings = k.rings ∧
    (k.tellLoss n).slotLimit = k.slotLimit ∧
    (k.tellLoss n).flights = k.flights ∧
    (k.tellLoss n).plantStop = k.plantStop ∧
    (k.tellLoss n).mask = k.mask ∧
    (k.tellLoss n).nodes = k.nodes := by
  simp only [Dock.tellLoss]; (repeat' split) <;> simp

@[simp] theorem Dock.missedReply_frame (n : Fin 48) :
    (k.missedReply n).commissioning = k.commissioning ∧
    (k.missedReply n).running = k.running ∧
    (k.missedReply n).offset = k.offset ∧
    (k.missedReply n).probes = k.probes ∧
    (k.missedReply n).classes = k.classes ∧
    (k.missedReply n).lanes = k.lanes ∧
    (k.missedReply n).rings = k.rings ∧
    (k.missedReply n).slotLimit = k.slotLimit ∧
    (k.missedReply n).flights = k.flights ∧
    (k.missedReply n).plantStop = k.plantStop ∧
    (k.missedReply n).mask = k.mask := by
  simp only [Dock.missedReply]; (repeat' split) <;> simp

@[simp] theorem Dock.assertStop_frame :
    (k.assertStop).commissioning = k.commissioning ∧
    (k.assertStop).running = k.running ∧
    (k.assertStop).offset = k.offset ∧
    (k.assertStop).probes = k.probes ∧
    (k.assertStop).classes = k.classes ∧
    (k.assertStop).pallets = k.pallets ∧
    (k.assertStop).lanes = k.lanes ∧
    (k.assertStop).rings = k.rings ∧
    (k.assertStop).slotLimit = k.slotLimit ∧
    (k.assertStop).flights = k.flights ∧
    (k.assertStop).mask = k.mask ∧
    (k.assertStop).nodes = k.nodes := by
  simp only [Dock.assertStop]; (repeat' split) <;> simp

@[simp] theorem Dock.releaseStop_frame :
    (k.releaseStop).commissioning = k.commissioning ∧
    (k.releaseStop).running = k.running ∧
    (k.releaseStop).offset = k.offset ∧
    (k.releaseStop).probes = k.probes ∧
    (k.releaseStop).classes = k.classes ∧
    (k.releaseStop).pallets = k.pallets ∧
    (k.releaseStop).lanes = k.lanes ∧
    (k.releaseStop).rings = k.rings ∧
    (k.releaseStop).slotLimit = k.slotLimit ∧
    (k.releaseStop).flights = k.flights ∧
    (k.releaseStop).mask = k.mask ∧
    (k.releaseStop).nodes = k.nodes := by
  simp only [Dock.releaseStop]; (repeat' split) <;> simp

/-- R212: the RING_DRAINED notices of a restart change the notice ends alone. -/
@[simp] theorem Dock.restartDrains_frame :
    k.restartDrains.commissioning = k.commissioning ∧
    k.restartDrains.running = k.running ∧
    k.restartDrains.offset = k.offset ∧
    k.restartDrains.zones = k.zones ∧
    k.restartDrains.probes = k.probes ∧
    k.restartDrains.classes = k.classes ∧
    k.restartDrains.pallets = k.pallets ∧
    k.restartDrains.lanes = k.lanes ∧
    k.restartDrains.rings = k.rings ∧
    k.restartDrains.doors = k.doors ∧
    k.restartDrains.defrosts = k.defrosts ∧
    k.restartDrains.slotLimit = k.slotLimit ∧
    k.restartDrains.flights = k.flights ∧
    k.restartDrains.channels = k.channels ∧
    k.restartDrains.plantStop = k.plantStop ∧
    k.restartDrains.alarms = k.alarms ∧
    k.restartDrains.overflow = k.overflow ∧
    k.restartDrains.mask = k.mask ∧
    k.restartDrains.alarmLine = k.alarmLine ∧
    k.restartDrains.nodes = k.nodes := by
  unfold Dock.restartDrains
  exact ⟨foldl_keeps Dock.commissioning _ (fun k a => by simp) _ _,
    foldl_keeps Dock.running _ (fun k a => by simp) _ _,
    foldl_keeps Dock.offset _ (fun k a => by simp) _ _,
    foldl_keeps Dock.zones _ (fun k a => by simp) _ _,
    foldl_keeps Dock.probes _ (fun k a => by simp) _ _,
    foldl_keeps Dock.classes _ (fun k a => by simp) _ _,
    foldl_keeps Dock.pallets _ (fun k a => by simp) _ _,
    foldl_keeps Dock.lanes _ (fun k a => by simp) _ _,
    foldl_keeps Dock.rings _ (fun k a => by simp) _ _,
    foldl_keeps Dock.doors _ (fun k a => by simp) _ _,
    foldl_keeps Dock.defrosts _ (fun k a => by simp) _ _,
    foldl_keeps Dock.slotLimit _ (fun k a => by simp) _ _,
    foldl_keeps Dock.flights _ (fun k a => by simp) _ _,
    foldl_keeps Dock.channels _ (fun k a => by simp) _ _,
    foldl_keeps Dock.plantStop _ (fun k a => by simp) _ _,
    foldl_keeps Dock.alarms _ (fun k a => by simp) _ _,
    foldl_keeps Dock.overflow _ (fun k a => by simp) _ _,
    foldl_keeps Dock.mask _ (fun k a => by simp) _ _,
    foldl_keeps Dock.alarmLine _ (fun k a => by simp) _ _,
    foldl_keeps Dock.nodes _ (fun k a => by simp) _ _⟩

/-- R216: a zone number that a request names. -/
theorem Dock.zoneOf_index (z : Fin 8) :
    k.zoneOf (byteOf z.val) = if k.zoneFitted z then .ok z else .error .noSuch := by
  have : indexOf 8 (byteOf z.val) = some z := by revert z; decide
  simp [Dock.zoneOf, this]

/-- R216: a zone number above 7. -/
theorem Dock.zoneOf_outside {b : Byte} (h : 8 ≤ b.toNat) : k.zoneOf b = .error .badArg := by
  have : indexOf 8 b = none := by simp [indexOf, Nat.not_lt.mpr h]
  simp [Dock.zoneOf, this]

end Sys2Proof.Machine
end

