-- ==== Sys2Proof/Tests/Slice0.lean ====
section
/-! SUPPORT. The model's own tests: ill-formed commands that WellFormed refuses, witnesses for the
hypotheses of the obligations, and single steps whose expected values come from the rules and the worked
examples of spec/. -/

namespace Sys2Proof.Tests

open Machine

/-! ### Small states -/

/-- A commissioned dock of 16 doors and 8 zones; zone 1 is a DOCK zone and every door opens into it. -/
def dock0 : Dock :=
  { Dock.reset with
    commissioning := { done := true, siteNumber := 1, doors := 16, zones := 8 }
    doors := Vector.replicate 16 { config := { dockZone := some 1 } }
    zones := tmod Dock.reset.zones 1 ({ · with kind := .dock }) }

/-- That dock, with every hold taken by the site link. -/
def ready : State :=
  { State.reset with dock := dock0, holds := Vector.replicate 16 { holder := some .site } }

/-- What a field of the next state holds. -/
def after {α : Type} (o : Result) (f : State → α) : Option α :=
  match o with
  | .next t => some (f t)
  | _ => none

/-- The body of the reply being sent on a link: its status and what follows (R200, R214). -/
def replyOn (l : Link) (s : State) : List Byte :=
  match (s.linkEnd l).sending with
  | none => []
  | some m => (m.frame.drop 5).take (m.frame.length - 7)

/-- The state with another dock made from its own. -/
def dockWith (f : Dock → Dock) : State := ready.on (f dock0)

/-! ### WellFormed refuses what cannot occur -/

/-- An entry and a move that fit their formats. -/
def entry0 : AdmitEntry := { tag := 5, cls := 0, present := 0, budget := 0 }
def move0 : RawMove :=
  { tag := 5, source := ⟨1, 3⟩, dest := ⟨2, 5⟩, flags := 0, allowance := 0 }

theorem test_wf_admit :
    Instr.wellFormed (.admitPallets .site 0 ⟨⟨2, 5⟩, List.replicate 31 entry0⟩) = false ∧
      Instr.wellFormed (.admitPallets .site 0 ⟨⟨2, 5⟩, List.replicate 30 entry0⟩) = true := by decide

theorem test_wf_postMoves :
    Instr.wellFormed (.postMoves .site 0 ⟨3, List.replicate 23 move0⟩) = false ∧
      Instr.wellFormed (.postMoves .site 0 ⟨3, List.replicate 22 move0⟩) = true := by decide

theorem test_wf_putNote :
    Instr.wellFormed (.putNote .site 0 (List.replicate 250 0)) = false ∧
      Instr.wellFormed (.putNote .site 0 (List.replicate 249 0)) = true := by decide +kernel

theorem test_wf_takeHold :
    Instr.wellFormed (.takeHold .site 0 3 1) = false ∧ Instr.wellFormed (.takeHold .site 0 3 0) = true := by
  decide

theorem test_wf_unknownRequest_code :
    Instr.wellFormed (.unknownRequest .site 0 0x10 []) = false ∧
      Instr.wellFormed (.unknownRequest .site 0 0x14 []) = true := by decide

theorem test_wf_unknownRequest_body :
    Instr.wellFormed (.unknownRequest .site 0 0x14 (List.replicate 251 0)) = false ∧
      Instr.wellFormed (.unknownRequest .site 0 0x14 (List.replicate 250 0)) = true := by decide +kernel

theorem test_wf_nodeReply :
    Instr.wellFormed (.nodeReply [] true) = false ∧ Instr.wellFormed (.nodeReply [1] true) = true := by
  decide

/-! ### Bytes and frames -/

/-- The check value of CRC-16 with this polynomial and initial value (R214). -/
theorem test_crc_check_value :
    crc [0x31, 0x32, 0x33, 0x34, 0x35, 0x36, 0x37, 0x38, 0x39] = 0x29B1 := by decide +kernel

/-- R216: two's complement, most significant byte first. -/
theorem test_temperature_bytes : tempBytes (-247) = [0xFF, 0x09] ∧ numBytes2 2500 = [0x09, 0xC4] := by decide

/-- R214, R217: RUN_RING of ring 3 read from its code and its body. -/
theorem test_read_runRing : readRequest 0x35 [3] = some (.runRing 3) ∧ readRequest 0x35 [] = none := by decide

/-- R216, R217: TAKE_HOLD with FORCE, and POST_MOVES with one descriptor. -/
theorem test_read_lists :
    readRequest 0x80 [3, 1] = some (.takeHold 3 1) ∧
      readRequest 0x34 [3, 1, 0, 0, 0, 5, 1, 3, 2, 5, 0, 0, 0] = some (.postMoves ⟨3, [move0]⟩) ∧
      readRequest 0x34 [3, 2, 0, 0, 0, 5, 1, 3, 2, 5, 0, 0, 0] = none := by decide

/-! ### Witnesses: the Link Interface -/

/-- Two places taken on the site link, with `n` OVERRUN replies waiting behind a frame being sent. -/
def full (n : Nat) : State :=
  ready.modLink .site (fun e =>
    { e with
      places := List.replicate 2 { tag := 0, received := .known .readClock }
      replies := List.replicate n { overrun := true, code := 0x93, tag := 0, body := [0x15] }
      sending := some { kind := .reply, frame := [0xC5] } })

theorem witness_StepTakesFrontCommand : State.reset.pending = [] := rfl

theorem witness_RequestAnswered :
    Ready ready .site (.dock 3) ∧ Ready ready .floor .readClock ∧ Ready State.reset .floor .identify := by
  decide

theorem witness_LinkChecksRefuse :
    (ready.inReset = false ∧ (ready.linkEnd .floor).places.length < 2 ∧ requestFits (.dock 15) = true) ∧
    (State.reset.dock.commissioning.done = false ∧ beforeCommissioning .readClock = false) ∧
    (ready.dock.commissioning.done = true ∧ supervisorOnly (.takeHold 3 1) = true) ∧
    (supervisorOnly (.dock 15) = false ∧ ready.holdPasses .floor (.dock 15) = false) := by decide

theorem witness_RefusedRequestChangesNothing :
    (ready.performBlock .site (.runRing 20)).2.status = .badArg := by decide

theorem witness_OverrunNotPerformed :
    2 ≤ ((full 1).linkEnd .site).places.length ∧ (full 1).overruns .site < 2 ∧
      2 ≤ ((full 2).linkEnd .site).places.length ∧ 2 ≤ (full 2).overruns .site := by decide

theorem witness_UnknownRequestAnswered :
    codeKnown 0x0F = false ∧ codeKnown 0xA5 = false ∧ codeKnown 0x10 = true ∧ readRequest 0x10 [] = none := by
  decide

theorem witness_SetNoticesWritesGroups :
    Ready State.reset .floor (.setNotices 127) ∧ (127 : Byte).toNat < 128 ∧
      Ready State.reset .floor (.setNotices 128) ∧ 128 ≤ (128 : Byte).toNat := by decide

theorem witness_NoticesQueued :
    (NoticeEnd.subscribed {} Group.zone) = false ∧ (NoticeEnd.subscribed { groups := 64 } Group.zone) = true ∧
      ([] : List QueuedNotice).length < 32 ∧
      32 ≤ (List.replicate 32 ({ sequence := 0, notice := .noteTaken 1 0 } : QueuedNotice)).length := by decide

theorem witness_CommissionBegins :
    Ready State.reset .site (.commission ⟨1, 16, 8⟩) ∧ State.reset.dock.commissioning.done = false ∧
      (1 : Half) ≠ 0 ∧ 1 ≤ (16 : Byte).toNat ∧ (16 : Byte).toNat ≤ 16 ∧ 1 ≤ (8 : Byte).toNat ∧
      (8 : Byte).toNat ≤ 8 := by decide

theorem witness_RestartQuietsPart :
    Ready ready .site .restart ∧ ready.dock.doorFitted 15 = true := by decide

/-- The part in power-on reset with the plant-stop line at a level. -/
def inReset (line : Bool) : State := { ready with inReset := true, plantLine := line }

theorem witness_ResetAndRelease :
    (inReset false).inReset = true ∧ (inReset false).plantLine = false ∧
      (inReset true).inReset = true ∧ (inReset true).plantLine = true := by decide

/-- The site link with these bytes received and this frame being sent. -/
def linkState (bytes : List Byte) (sending : Option Sending) : State :=
  ready.modLink .site (fun e => { e with receiver := bytes, sending := sending })

/-- A READ_CLOCK frame, which has an empty body (R214). -/
def clockFrame : List Byte := frameBytes requestKind 0x93 7 []

/-- A frame of kind notice, which a host never sends. -/
def noticeFrame0 : List Byte := frameBytes noticeKind 0x93 7 []

theorem witness_LinkEventsComplete :
    ready.inReset = false ∧ completeFrame (ready.linkEnd .site).receiver = none ∧
      completeFrame ((linkState [0xC5, 5, 1] none).linkEnd .site).receiver = none ∧
      completeFrame ((linkState (clockFrame ++ [0xC5]) none).linkEnd .site).receiver =
        some (clockFrame, [0xC5]) ∧
      frameChecked clockFrame = some [5, requestKind, 0x93, 7] ∧
      completeFrame ((linkState (noticeFrame0 ++ [0xC5]) none).linkEnd .site).receiver =
        some (noticeFrame0, [0xC5]) ∧
      frameChecked noticeFrame0 = some [5, noticeKind, 0x93, 7] ∧ noticeKind ≠ requestKind ∧
      completeFrame ((linkState [0xC5, 5, 1, 2, 3, 4, 5] none).linkEnd .site).receiver =
        some ([0xC5, 5, 1, 2, 3, 4, 5], []) ∧
      frameChecked [0xC5, 5, 1, 2, 3, 4, 5] = none ∧
      ((linkState [] (some { kind := .reply, frame := [0xC5] })).linkEnd .site).sending =
        some { kind := .reply, frame := [0xC5] } ∧
      ((linkState [] (some { kind := .notice, frame := [0xC5] })).linkEnd .site).sending =
        some { kind := .notice, frame := [0xC5] } ∧ SendKind.notice ≠ .reply := by decide +kernel

theorem witness_RequestBodyRoundTrip :
    requestFits (.putNote (List.replicate 249 0)) = true ∧
      requestFits (.admitPallets ⟨⟨2, 5⟩, List.replicate 30 entry0⟩) = true := by decide +kernel

theorem witness_FrameReceivedWhole :
    requestFits .readClock = true ∧ ready.inReset = false ∧ (ready.linkEnd .site).receiver = [] ∧
      ready.settle = ready := by decide +kernel

/-! ### Witnesses: reads -/

/-- The dock with lane 23 fitted and bound to zone 1. -/
def laneDock : Dock := dock0.modLane 23 ({ · with zone := 1, capacity := 12 })

theorem witness_ZoneAndLaneReadsAnswer :
    Ready ready .floor (.readZone (idx (7 : Fin 8)) 0) ∧ Ready ready .floor (.readZone (idx (7 : Fin 8)) 1) ∧
      ready.dock.zoneFitted 7 = true ∧ Ready ready .floor (.readProbe (idx (31 : Fin 32))) ∧
      Ready ready .floor (.readClass (idx (7 : Fin 8))) ∧ Ready ready .floor (.readLane (idx (23 : Fin 24))) := by
  decide

theorem witness_DoorAndRingReadsAnswer :
    Ready ready .floor (.readDoor (idx (15 : Fin 16))) ∧ ready.dock.doorFitted 15 = true ∧
      Ready ready .floor (.readDefrost (idx (7 : Fin 8))) ∧ ready.dock.zoneFitted 7 = true ∧
      Ready ready .floor (.readChannel (idx (47 : Fin 48))) ∧ ready.dock.channelFitted 47 = true ∧
      Ready ready .floor (.readRing ⟨idx (19 : Fin 20), 31, 3⟩) ∧ ready.dock.ringFitted 19 = true ∧
      (31 : Byte).toNat ≤ 31 ∧ (3 : Byte).toNat ≤ 3 := by decide

theorem witness_SiteReadsAnswer :
    Ready ready .floor (.readAlarms 48) ∧ (48 : Byte).toNat ≤ 48 ∧ Ready ready .floor .readHolds ∧
      Ready ready .floor (.readNode (byteOf ((47 : Fin 48).val + 1))) ∧ Ready ready .floor .readClock ∧
      Ready ready .floor .identify ∧ Ready ready .floor .status := by decide

/-! ### Witnesses: zones and probes -/

/-- Zone 0 as SET_ZONE leaves it, at the ends of its ranges (R2). -/
def setZone0 (kind : Byte) : SetZone :=
  { zone := idx (0 : Fin 8), kind := kind, setPoint := -500, highLimit := 500, lowLimit := -500,
    alarmDelay := 3600, rounding := 2 }

theorem witness_SetZoneWritesAndUpdates :
    Ready ready .site (.setZone (setZone0 0)) ∧ ready.dock.zoneFitted 0 = true ∧
      readZoneKind 0 = some .frozenRoom ∧ readRounding 2 = some .nearestEven ∧
      Dock.zoneFieldsOk (setZone0 0) = true ∧ ZoneKind.frozenRoom = (ready.dock.zones[(0 : Fin 8)]).kind ∧
      readZoneKind 1 = some .dock ∧ ready.dock.zoneInUse 0 = false := by decide

/-- The dock with probe 31 bound to zone 7. -/
def boundDock : Dock := dock0.modProbe 31 ({ · with bound := some 7, status := .ok })

theorem witness_SetProbeBinds :
    Ready ready .site (.setProbe ⟨idx (31 : Fin 32), 0xFF, 50⟩) ∧ (50 : Byte).toInt ≤ 50 ∧
      (-50 : Int) ≤ (-50 : Byte).toInt ∧ (ready.dock.probes[(31 : Fin 32)]).bound = none ∧
      Ready ready .site (.setProbe ⟨idx (31 : Fin 32), idx (7 : Fin 8), 0⟩) ∧
      ready.dock.zoneFitted 7 = true ∧ (ready.dock.boundProbes 7).length < 4 ∧
      Ready (ready.on boundDock) .site (.setProbe ⟨idx (31 : Fin 32), 0xFF, 0⟩) ∧
      (boundDock.probes[(31 : Fin 32)]).bound = some 7 ∧
      Ready (ready.on boundDock) .site (.setProbe ⟨idx (31 : Fin 32), idx (0 : Fin 8), 0⟩) ∧
      boundDock.zoneFitted 0 = true ∧ (boundDock.boundProbes 0).length < 4 := by decide

theorem witness_ZoneUpdateSetsTemperature :
    dock0.contributions 7 = [] ∧ boundDock.contributions 7 ≠ [] := by decide

theorem witness_RoundingModesRight :
    0 < 4 ∧ (4 : Int) ∣ -8 ∧ ¬ (4 : Int) ∣ -7 ∧ boundDock.contributions 7 ≠ [] ∧
      ready.dock.zoneFitted 7 = true ∧ Ready ready .floor (.readZone (idx (7 : Fin 8)) 1) := by decide

/-- A move posted to ring 3, and the same move picked at running second 0. -/
def posted : Descriptor :=
  { tag := 5, source := .trailer 3, dest := .lane 23, notify := true, allowance := 30, status := .pending,
    overdue := false, pickTime := none }
def picked : Descriptor := { posted with status := .picked, pickTime := some 0 }

/-- Timers that all run from second 0, at the second at which the longest of them expires. -/
def timerDock : Dock :=
  { ((boundDock.modZone 7 ({ · with refresh := some 0, warm := .timing 0, cold := .timing 0 })).modRing 3
      ({ · with state := .run, waiting := [picked] })) with running := 300 }

theorem witness_SensorTimersExpire :
    (dockWith (fun _ => timerDock)).inReset = false ∧ (timerDock.probes[(31 : Fin 32)]).bound = some 7 ∧
      (timerDock.probes[(31 : Fin 32)]).status = .ok ∧
      (timerDock.probes[(31 : Fin 32)]).readTime + 120 ≤ timerDock.running ∧
      (timerDock.zones[(7 : Fin 8)]).refresh = some 0 ∧ 0 + 60 ≤ timerDock.running ∧
      (timerDock.zones[(7 : Fin 8)]).warm = .timing 0 ∧ (timerDock.zones[(7 : Fin 8)]).cold = .timing 0 ∧
      0 + (timerDock.zones[(7 : Fin 8)]).alarmDelay ≤ timerDock.running ∧
      (timerDock.rings[(3 : Fin 20)]).waiting = [picked] ∧ picked.status = .picked ∧
      picked.overdue = false ∧ picked.pickTime = some 0 ∧ 0 + picked.allowance ≤ timerDock.running := by decide

/-! ### Witnesses: classes and pallets -/

/-- A record of tag 5 at a location, in slot 1023 of the table. -/
def pallet0 (loc : Loc) : Pallet :=
  { tag := 5, cls := 0, budget := 600, exposure := 0, residue := 0, stamp := 0, loc := loc, grade := .ok,
    quarantine := false, saturated := false, substituted := false, revision := 0 }
def palletDock (loc : Loc) : Dock := { laneDock with pallets := [(1023, pallet0 loc)] }

theorem witness_SetClassRegrades :
    Ready ready .site (.setClass ⟨idx (7 : Fin 8), -400, 64, 65535, 255⟩) ∧
      classFieldsOk ⟨idx (7 : Fin 8), -400, 64, 65535, 255⟩ = true := by decide

theorem witness_AdmissionTakesEmptySlots :
    Ready (ready.on laneDock) .floor (.admitPallets ⟨⟨2, 23⟩, [entry0]⟩) ∧
      readAdmitSpot ⟨2, 23⟩ = some (.lane 23) ∧
      readEvery readEntry [entry0] = some [{ tag := 5, cls := 0, override := none }] ∧
      laneDock.admitRefusal (.lane 23) [{ tag := 5, cls := 0, override := none }] = none ∧
      (palletDock .adrift).pallets.length + 1 ≤ 1024 ∧ (palletDock .adrift).palletAt 0 = none := by decide

theorem witness_AdmissionTable : PalletsOk (palletDock .adrift) := by
  constructor <;> decide

theorem witness_AmendPalletConditional :
    Ready (ready.on (palletDock .adrift)) .floor (.amendPallet ⟨5, 0, 4, 0, 0⟩) ∧
      readChanges ⟨5, 0, 4, 0, 0⟩ = some ⟨none, none, true, false⟩ ∧
      (⟨none, none, true, false⟩ : Changes).supervisor = false ∧
      (palletDock .adrift).findTag 5 = some (1023, pallet0 .adrift) ∧
      (0 : Half) = (pallet0 .adrift).revision ∧ (1 : Half) ≠ (pallet0 .adrift).revision := by decide

theorem witness_PalletReadsAndRelease :
    Ready (ready.on (palletDock .departed)) .site (.readPallet 5) ∧ (5 : Word) ≠ 0 ∧
      (palletDock .departed).findTag 5 = some (1023, pallet0 .departed) ∧
      Ready (ready.on (palletDock .departed)) .site (.listPallets ⟨⟨0, 0⟩, 1024⟩) ∧
      readFilter ⟨0, 0⟩ = some .any ∧ (1024 : Half).toNat ≤ 1024 ∧
      (palletDock .departed).filterFitted .any = true ∧
      Ready (ready.on (palletDock .departed)) .site (.releasePallet 5) ∧
      (pallet0 .departed).loc = .departed ∧ (palletDock .departed).tagWaiting 5 = false := by decide

theorem witness_AccrualIsExact :
    (pallet0 .adrift).exposure ≤ 65535 ∧
      65535 < 65535 + (959 + 1 * 900 * 64) / 960 := by decide

theorem witness_AccrualSplits :
    (pallet0 .adrift).stamp ≤ 450 ∧ 450 ≤ 900 ∧ 900 ≤ (pallet0 .adrift).stamp + 900 ∧
      (pallet0 .adrift).residue < 960 ∧
      (pallet0 .adrift).exposure + ((pallet0 .adrift).residue +
        excess (some { temp := -170, substituted := false }) {} * (900 - (pallet0 .adrift).stamp) * 16) / 960 ≤
        65535 := by decide

theorem witness_RegradeFollowsTable :
    gradeOf 600 600 192 = .spent ∧ gradeOf 450 600 192 = .warn ∧ gradeOf 449 600 192 = .ok ∧
      (palletDock .adrift).palletAt 1023 = some (pallet0 .adrift) := by decide

/-! ### Witnesses: lanes, rings and moves -/

/-- Ring 3 with its head posted or picked, in a state, with the trailer of door 3 inbound and OPEN. -/
def ringDock (m : Descriptor) (st : RingState) : Dock :=
  ((palletDock (if m.status = .picked then .transit 3 0 else .at (.trailer 3))).modDoor 3
    ({ · with state := .open, trailer := some { id := 1, direction := .inbound } })).modRing 3
    ({ · with state := st, waiting := [m] })

theorem witness_LaneAndRingRequests :
    Ready ready .site (.setLane ⟨idx (23 : Fin 24), idx (7 : Fin 8), 12, 1⟩) ∧
      readLaneState 1 = some .blocked ∧ (12 : Byte).toNat ≤ 12 ∧ ready.dock.zoneFitted 7 = true ∧
      ready.dock.laneInUse 23 7 (12 : Byte).toNat = false ∧
      Ready (ready.on laneDock) .floor (.blockLane (idx (23 : Fin 24))) ∧ laneDock.laneFitted 23 = true ∧
      Ready (ready.on laneDock) .floor (.unblockLane (idx (23 : Fin 24))) := by decide

theorem witness_LaneAndRingRequests_rings :
    Ready (ready.on (ringDock posted .halted)) .site (.runRing (idx (3 : Fin 20))) ∧
      ((ringDock posted .halted).rings[(3 : Fin 20)]).waiting ≠ [] ∧
      Ready ready .site (.runRing (idx (19 : Fin 20))) ∧ ready.dock.ringFitted 19 = true ∧
      (ready.dock.rings[(19 : Fin 20)]).state = .halted ∧ (ready.dock.rings[(19 : Fin 20)]).waiting = [] ∧
      Ready (ready.on (ringDock posted .run)) .site (.pauseRing (idx (3 : Fin 20))) ∧
      ((ringDock posted .run).rings[(3 : Fin 20)]).state ≠ .halted ∧
      Ready ready .site (.clearRing (idx (19 : Fin 20))) ∧ ready.dock.headPicked 19 = false ∧
      (ringDock picked .run).headPicked 3 = true := by decide

theorem witness_PostMovesAppends :
    let s := ready.on (ringDock posted .run)
    let ms : List Descriptor := [{ posted with tag := 6, notify := false, allowance := 600 }]
    Ready s .site (.postMoves ⟨idx (3 : Fin 20), [⟨6, ⟨1, 3⟩, ⟨2, 23⟩, 0, 0⟩]⟩) ∧
      readEvery (readMove 3) [⟨6, ⟨1, 3⟩, ⟨2, 23⟩, 0, 0⟩] = some ms ∧ s.dock.ringFitted 3 = true ∧
      (∀ m ∈ ms, s.dock.spotFitted m.source = true ∧ s.dock.spotFitted m.dest = true) ∧
      (∀ m ∈ ms, s.dock.sourceOk m.source = true ∧ s.dock.destOk m.dest = true) ∧
      (∀ m ∈ ms, s.dock.tagWaiting m.tag = false) ∧ (ms.map (·.tag)).Nodup ∧
      (s.dock.rings[(3 : Fin 20)]).waiting.length + ms.length ≤ 32 := by decide

theorem witness_CancelHeadAbandons :
    Ready (ready.on (ringDock picked .run)) .site (.cancelHead (idx (3 : Fin 20))) ∧
      ((ringDock picked .run).rings[(3 : Fin 20)]).waiting = [picked] ∧ picked.status = .picked ∧
      (ringDock picked .run).findTag 5 = some (1023, pallet0 (.transit 3 0)) ∧
      ((ringDock posted .run).rings[(3 : Fin 20)]).waiting = [posted] ∧ posted.status ≠ .picked := by decide

theorem witness_PickAccepted :
    let k := ringDock posted .run
    k.plantStop = false ∧ k.candidate (.trailer 3) 5 = some 3 ∧ (k.rings[(3 : Fin 20)]).waiting = [posted] ∧
      k.pickVerdict 3 posted = none ∧ k.findTag 5 = some (1023, pallet0 (.at (.trailer 3))) := by decide

theorem witness_RefusedPickKeepsDock :
    dock0.candidate (.trailer 3) 5 = none ∧ (ringDock posted .paused).candidate (.trailer 3) 5 = some 3 ∧
      (ringDock posted .paused).pickVerdict 3 posted = some .ringPaused ∧
      ({ dock0 with plantStop := true } : Dock).plantStop = true ∧
      (dock0.modNode (Dock.terminalNode 23) ({ · with status := .online })).nodeFitted
        (Dock.terminalNode 23) = true := by decide

theorem witness_PlaceAccepted :
    let k := ringDock picked .run
    k.placeRing (.lane 23) 5 = some 3 ∧ (k.rings[(3 : Fin 20)]).waiting = [picked] ∧
      k.findTag 5 = some (1023, pallet0 (.transit 3 0)) ∧
      (∀ d ∈ picked.doors, (k.doors[d]).state ≠ .closePending) := by decide

/-! ### Witnesses: doors -/

/-- Door 15 in a state, with a pressure and a through-door count. -/
def doorDock (st : DoorState) (pressure through : Nat) : Dock :=
  dock0.modDoor 15 ({ · with state := st, pressure := pressure, through := through })

/-- SET_DOOR of door 15 into a zone, at the ends of its ranges (R77). -/
def setDoor15 (zone : Byte) : SetDoor :=
  { door := idx (15 : Fin 16), dockZone := zone, weight := 15, hold := 2500, low := 50, release := 49,
    inflateTimeout := 300, travelTimeout := 120, leakGrace := 60, closeWait := 900 }

theorem witness_DoorSettings :
    Ready ready .site (.setDoor (setDoor15 (idx (1 : Fin 8)))) ∧
      Dock.doorConfigOk (setDoor15 (idx (1 : Fin 8))) = true ∧ ready.dock.doorFitted 15 = true ∧
      ready.dock.zoneFitted 1 = true ∧ (ready.dock.zones[(1 : Fin 8)]).kind = .dock ∧
      (ready.dock.doors[(15 : Fin 16)]).config.dockZone = some 1 ∧
      Ready (ready.on (doorDock .arrived 0 0)) .site (.assignTrailer ⟨idx (15 : Fin 16), 9, 1, 40⟩) ∧
      Dock.directionOf 1 40 = some (.outbound 40 0 0) ∧
      ((doorDock .arrived 0 0).doors[(15 : Fin 16)]).state = .arrived := by decide

theorem witness_DoorSettings_rebind :
    let s := dockWith (fun k => k.modZone 7 ({ · with kind := .dock }))
    Ready s .site (.setDoor (setDoor15 (idx (7 : Fin 8)))) ∧ s.dock.zoneFitted 7 = true ∧
      (s.dock.zones[(7 : Fin 8)]).kind = .dock ∧
      (s.dock.doors[(15 : Fin 16)]).config.dockZone ≠ some 7 ∧
      (s.dock.doors[(15 : Fin 16)]).state.notClosed = false ∧ s.dock.spotWaiting (.trailer 15) = false := by
  decide

theorem witness_DoorMotionRequests :
    ready.dock.doorFitted 15 = true ∧
      Ready (ready.on (doorDock .assigned 0 0)) .site (.dock (idx (15 : Fin 16))) ∧
      ((doorDock .assigned 0 0).doors[(15 : Fin 16)]).config.dockZone ≠ none ∧
      Ready (ready.on (doorDock .sealed 600 0)) .site (.undock (idx (15 : Fin 16))) ∧
      Ready (ready.on (doorDock .sealed 600 0)) .site (.openDoor (idx (15 : Fin 16))) ∧
      (doorDock .sealed 600 0).plantStop = false ∧
      ((doorDock .sealed 600 0).doors[(15 : Fin 16)]).state = .sealed ∧
      ((doorDock .sealed 600 0).doors[(15 : Fin 16)]).config.hold ≤
        ((doorDock .sealed 600 0).doors[(15 : Fin 16)]).pressure ∧
      ((doorDock .sealed 600 0).defrosts[(1 : Fin 8)]).phase = .cooling ∧
      Ready (dockWith ({ · with plantStop := true })) .site (.openDoor (idx (15 : Fin 16))) ∧
      Ready (ready.on (doorDock .open 600 0)) .site (.closeDoor (idx (15 : Fin 16))) ∧
      ((doorDock .open 600 0).doors[(15 : Fin 16)]).through = 0 ∧
      Ready (ready.on (doorDock .open 600 1)) .site (.closeDoor (idx (15 : Fin 16))) ∧
      ((doorDock .open 600 1).doors[(15 : Fin 16)]).through ≠ 0 := by decide

/-- Door 15 in OPENING with a retry count. -/
def openingDock (retry : Nat) : Dock := (doorDock .opening 600 0).modDoor 15 ({ · with retry := retry })

theorem witness_DoorMotionRequests_rows :
    Ready (ready.on (doorDock .released 0 0)) .site (.undock (idx (15 : Fin 16))) ∧
      ((doorDock .released 0 0).doors[(15 : Fin 16)]).state = .released ∧
      (∀ n ∈ [0, 1, 2, 3], Ready (ready.on (openingDock n)) .site (.closeDoor (idx (15 : Fin 16))) ∧
        (openingDock n).plantStop = false ∧ ((openingDock n).doors[(15 : Fin 16)]).state = .opening ∧
        ((openingDock n).doors[(15 : Fin 16)]).retry = n) ∧
      (∀ st ∈ [DoorState.closePending, .closing],
        Ready (ready.on (doorDock st 0 0)) .site (.closeDoor (idx (15 : Fin 16))) ∧
        (doorDock st 0 0).plantStop = false ∧ ((doorDock st 0 0).doors[(15 : Fin 16)]).state = st) := by
  decide

theorem witness_ServiceAndReturnDoor :
    Ready (ready.on (doorDock .fault 0 0)) .site (.serviceDoor (idx (15 : Fin 16))) ∧
      ((doorDock .fault 0 0).doors[(15 : Fin 16)]).state = .fault ∧
      Ready (ready.on (doorDock .outOfService 0 0)) .site (.returnDoor (idx (15 : Fin 16))) ∧
      ((doorDock .outOfService 0 0).doors[(15 : Fin 16)]).state = .outOfService := by decide

theorem witness_DoorStateEntry :
    (dock0.channels[driveOf 15]).owner = .sequencer ∧ DoorState.opening.drive = some .open ∧
      (dock0.channels[blowerOf 15]).owner = .sequencer ∧
      DoorState.opening.blower (dock0.channels[blowerOf 15]).latch = some .on := by decide

/-- Door 15 in a state with all six timers running from second 0, at second 900. -/
def doorTimers (st : DoorState) : Dock :=
  { (dock0.modDoor 15
      ({ · with state := st, timers := ⟨some 0, some 0, some 0, some 0, some 0, some 0⟩ })) with
    running := 900 }

/-- A report of a present or absent trailer at full pressure, and of one at none. -/
def report (present : Bool) (position : Position) (obstruction : Bool) : DoorReport :=
  { presence := present, pressure := 2500, position := position, obstruction := obstruction }

theorem witness_DoorReportsMove :
    ((doorDock .vacant 0 0).doors[(15 : Fin 16)]).state = .vacant ∧
      ((doorDock .opening 0 0).doors[(15 : Fin 16)]).state.notClosed = true ∧
      ((doorDock .closing 0 0).doors[(15 : Fin 16)]).state = .closing ∧
      (report true .closed false).presence = true ∧ (report true .closed false).position = .closed ∧
      (report false .between true).presence = false ∧ (report true .between true).position ≠ .closed ∧
      (report true .between true).position ≠ .open ∧ (report true .open false).position = .open ∧
      ((doorDock .closing 0 0).doors[(15 : Fin 16)]).config.hold ≤ (report true .closed false).pressure := by
  decide

/-- Door 15 in RESYNC with a trailer part. -/
def resyncDock : Dock :=
  (doorDock .resync 0 0).modDoor 15 ({ · with trailer := some { id := 9, direction := .inbound } })

theorem witness_DoorReportsMove_resync :
    ((doorDock .resync 0 0).doors[(15 : Fin 16)]).state = .resync ∧
      ((doorDock .resync 0 0).doors[(15 : Fin 16)]).trailer = none ∧
      (resyncDock.doors[(15 : Fin 16)]).state = .resync ∧ (resyncDock.doors[(15 : Fin 16)]).trailer ≠ none ∧
      (report false .open true).position ≠ .closed ∧ (report false .open true).presence = false ∧
      (report false .closed true).position = .closed ∧
      (resyncDock.doors[(15 : Fin 16)]).config.hold ≤ (report true .closed false).pressure ∧
      0 < (resyncDock.doors[(15 : Fin 16)]).config.hold := by decide

theorem witness_DoorTimersExpire :
    let dr := (doorTimers .open).doors[(15 : Fin 16)]
    let now := (doorTimers .open).running
    dr.timers = ⟨some 0, some 0, some 0, some 0, some 0, some 0⟩ ∧ 0 + dr.config.inflateTimeout ≤ now ∧
      0 + 20 ≤ now ∧ 0 + dr.config.travelTimeout ≤ now ∧ 0 + 5 ≤ now ∧ 0 + dr.config.closeWait ≤ now ∧
      0 + dr.config.leakGrace ≤ now ∧ dr.state ≠ .sealed ∧
      ((doorTimers .sealed).doors[(15 : Fin 16)]).state = .sealed := by decide

theorem witness_TrailerRemovalEmpties :
    PalletsOk (palletDock (.at (.trailer 3))) ∧
      (palletDock (.at (.trailer 3))).palletAt 1023 = some (pallet0 (.at (.trailer 3))) ∧
      (palletDock .adrift).palletAt 1023 = some (pallet0 .adrift) ∧
      (pallet0 .adrift).loc ≠ .at (.trailer 3) := by
  refine ⟨?_, by decide⟩
  constructor <;> decide

/-! ### Witnesses: defrost, outputs and alarms -/

/-- Zone 7 in a phase, with every timer running from second 0, at second 28800. -/
def phaseDock (ph : Phase) : Dock :=
  { (dock0.modDefrost 7
      ({ · with
        phase := ph, gate := ph.gate, interval := true, deferral := some 0, duration := some 0,
        drip := some 0, recovery := some 0 })) with running := 28800 }

theorem witness_DefrostRequests :
    let a : SetDefrost :=
      { zone := idx (7 : Fin 8), threshold := 65535, maxInterval := 86400, quantum := 255,
        termination := 250, maxDuration := 3600, dripTime := 900, recoveryTimeout := 7200,
        maxDeferral := 7200 }
    ready.dock.zoneFitted 7 = true ∧ Ready ready .site (.setDefrost a) ∧ defrostFieldsOk a = true ∧
      Ready ready .site (.setSlots 4) ∧ (4 : Byte).toNat ≤ 4 ∧ 1 ≤ (4 : Byte).toNat ∧
      (∀ y : Fin 8, (ready.dock.defrosts[y]).slot = false) ∧
      Ready ready .floor (.requestDefrost (idx (7 : Fin 8))) ∧
      (ready.dock.defrosts[(7 : Fin 8)]).phase = .cooling ∧
      ((phaseDock .due).defrosts[(7 : Fin 8)]).phase = .due ∧
      ((phaseDock .holding).defrosts[(7 : Fin 8)]).phase = .holding ∧
      Ready (ready.on (phaseDock .due)) .floor (.inhibitDefrost (idx (7 : Fin 8))) ∧
      Ready (ready.on (phaseDock .inhibited)) .floor (.restoreDefrost (idx (7 : Fin 8))) ∧
      ((phaseDock .inhibited).defrosts[(7 : Fin 8)]).phase = .inhibited := by decide

theorem witness_DefrostTimersExpire :
    let df := (phaseDock .holding).defrosts[(7 : Fin 8)]
    let now := (phaseDock .holding).running
    df.interval = true ∧ df.lastEnd + df.config.maxInterval ≤ now ∧ df.deferral = some 0 ∧
      0 + df.config.maxDeferral ≤ now ∧ ((phaseDock .holding).zones[(7 : Fin 8)]).kind = .frozenRoom ∧
      df.duration = some 0 ∧ 0 + df.config.maxDuration ≤ now ∧ df.drip = some 0 ∧
      0 + df.config.dripTime ≤ now ∧ df.recovery = some 0 ∧ 0 + df.config.recoveryTimeout ≤ now ∧
      (((phaseDock .holding).modZone 7 ({ · with kind := .dock })).zones[(7 : Fin 8)]).kind = .dock := by decide

theorem witness_ArbiterGrantsWithinLimit :
    (phaseDock .due).winner = some 7 ∧ dock0.winner = none ∧ dock0.slotsHeld ≤ dock0.slotLimit ∧
      ({ dock0 with plantStop := true } : Dock).plantStop = true ∧
      (phaseDock .due).plantStop = false ∧ (phaseDock .due).slotsHeld < (phaseDock .due).slotLimit ∧
      (phaseDock .due).zoneClear 7 = true ∧
      ((phaseDock .due).modDefrost 7 ({ · with moves := 1 })).winner = some 7 ∧
      ((phaseDock .due).modDefrost 7 ({ · with moves := 1 })).zoneClear 7 = false := by decide

/-- Channel 47, the fans of zone 7, timing a mismatch from second 0, at the second of its expiry. -/
def mismatchDock : Dock :=
  { (dock0.modChannel 47 ({ · with feedback := some .on, check := .timing 0 })) with running := 30 }

theorem witness_ChannelCommandsComplete :
    let k := phaseDock .inhibited
    Ready (ready.on k) .site (.setChannel ⟨idx (47 : Fin 48), 1⟩) ∧ Dock.readLevel 47 1 = some .on ∧
      k.channelFitted 47 = true ∧ k.manualAllowed 47 = true ∧
      (mismatchDock.channels[(47 : Fin 48)]).check = .timing 0 ∧
      0 + (channelKind 47).grace ≤ mismatchDock.running := by decide

theorem witness_ChannelCommandsComplete_check :
    let raised := mismatchDock.modChannel 47 ({ · with check := .raised .mismatch, latch := .on, armed := true })
    let lost := mismatchDock.modChannel 47 ({ · with check := .suspended, feedback := none })
    (dock0.channels[(47 : Fin 48)]).check = .agree ∧ (dock0.channels[(47 : Fin 48)]).effective = .off ∧
      (raised.channels[(47 : Fin 48)]).check = .raised .mismatch ∧
      effectiveLevel (channelKind 47) .on true raised.plantStop ≠ (raised.channels[(47 : Fin 48)]).effective ∧
      (raised.channels[(47 : Fin 48)]).feedback = some .on ∧
      (lost.channels[(47 : Fin 48)]).check = .suspended ∧ (lost.channels[(47 : Fin 48)]).feedback = none ∧
      disagreement (channelKind 47) (some .on) .off = .mismatch ∧
      disagreement (channelKind 46) (some .on) .off = .heaterStuck := by decide

theorem witness_PlantStopForcesSafe :
    dock0.plantStop = false ∧ ({ dock0 with plantStop := true } : Dock).plantStop = true ∧
      (channelKind 31).forced = true := by decide

/-- A NODE_LOST entry of node 48, and a dock whose list holds it. -/
def entry48 (st : AlarmState) : AlarmEntry :=
  { kind := .nodeLost, subject := .node 47, first := 0, last := 0, repeats := 255, state := st }
def alarmDock (st : AlarmState) : Dock :=
  { dock0 with
    alarms := [entry48 st]
    overflow := some { kind := .listOverflow, subject := .site, first := 0, last := 0, repeats := 1,
                       state := .activeUnack } }

theorem witness_AlarmRequests :
    let s := ready.on (alarmDock .activeUnack)
    Ready s .floor (.ackAlarm ⟨21, 7, 48⟩) ∧ Dock.readAlarm ⟨21, 7, 48⟩ = some (.nodeLost, .node 47) ∧
      AlarmKind.nodeLost ≠ .listOverflow ∧
      s.dock.alarms.zipIdx.find? (fun e => e.1.matches .nodeLost (.node 47)) =
        some (entry48 .activeUnack, 0) ∧
      Ready s .floor (.ackAlarm ⟨23, 0, 0⟩) ∧ Dock.readAlarm ⟨23, 0, 0⟩ = some (.listOverflow, .site) ∧
      s.dock.overflow.isSome = true ∧ Ready s .floor .ackAll ∧ Ready s .site (.setMask 1 1) ∧
      readAlarmKind 1 = some .zoneWarm ∧ readMaskSetting 1 = some .quiet ∧
      AlarmKind.zoneWarm.maskable = true := by decide

theorem witness_AlarmRequests_list : AlarmsOk (alarmDock .clearedUnack).evalLine := by
  constructor <;> decide

theorem witness_RaisedAlarmStands :
    (alarmDock .activeAck).alarms.find? (·.matches .nodeLost (.node 47)) = some (entry48 .activeAck) ∧
      dock0.alarms.find? (·.matches .nodeLost (.node 47)) = none ∧ dock0.alarms.length < 47 ∧
      (List.replicate 47 (entry48 .activeAck)).find? (·.matches .plantStop .site) = none ∧
      47 ≤ (List.replicate 47 (entry48 .activeAck)).length := by decide

/-! ### Witnesses: holds, notes, field loop, clock -/

/-- The hold of door 15 in a given arrangement. -/
def holdState (holder waits : Option Link) : State := ready.modHold 15 (fun _ => ⟨holder, waits⟩)

theorem witness_HoldRequests :
    ready.dock.doorFitted 15 = true ∧
      Ready (holdState none none) .floor (.takeHold (idx (15 : Fin 16)) 0) ∧
      ((holdState none none).holds[(15 : Fin 16)]).holder = none ∧
      ((holdState (some .floor) none).holds[(15 : Fin 16)]).holder = some .floor ∧
      ((holdState (some .site) none).holds[(15 : Fin 16)]).holder = some (otherLink .floor) ∧
      Ready (holdState (some .floor) (some .site)) .site (.takeHold (idx (15 : Fin 16)) 1) ∧
      Ready (holdState (some .floor) (some .site)) .floor (.dropHold (idx (15 : Fin 16))) ∧
      ((holdState (some .floor) (some .site)).holds[(15 : Fin 16)]) = ⟨some .floor, some .site⟩ ∧
      ((holdState (some .site) (some .floor)).holds[(15 : Fin 16)]) = ⟨some .site, some .floor⟩ := by decide

/-- A part commissioned with 15 doors. -/
def fifteenDoors : State := dockWith (fun k => { k with commissioning := { k.commissioning with doors := 15 } })

theorem witness_HoldRequests_checks :
    16 ≤ (16 : Byte).toNat ∧ Ready ready .floor (.takeHold 16 0) ∧ Ready ready .site (.takeHold 255 1) ∧
      Ready ready .floor (.dropHold 16) ∧
      fifteenDoors.dock.doorFitted 15 = false ∧ Ready fifteenDoors .floor (.dropHold (idx (15 : Fin 16))) ∧
      ready.floor.places.length < 2 ∧ ready.dock.commissioning.done = true := by decide

/-- The toward-floor slot filled. -/
def noteState : State := ready.setNoteTo .floor (some (List.replicate 64 1))

theorem witness_NoteRequests :
    (NoticeEnd.subscribed { groups := 32 } Group.hold) = true ∧ (NoticeEnd.subscribed {} Group.hold) = false ∧
      Ready ready .site (.putNote []) ∧ 64 < (List.replicate 65 (1 : Byte)).length ∧
    Ready ready .site (.putNote (List.replicate 64 1)) ∧ 1 ≤ (List.replicate 64 (1 : Byte)).length ∧
      (List.replicate 64 (1 : Byte)).length ≤ 64 ∧ ready.noteTo (otherLink .site) = none ∧
      noteState.noteTo (otherLink .site) ≠ none ∧ Ready noteState .floor .takeNote ∧
      noteState.noteTo .floor = some (List.replicate 64 1) ∧ ready.noteTo .floor = none := by decide

theorem witness_SetTerminalBinds :
    Ready ready .site (.setTerminal ⟨idx (23 : Fin 24), ⟨1, 15⟩⟩) ∧
      readBinding ⟨1, 15⟩ = some (some (.trailer 15)) ∧ ready.dock.spotFitted (.trailer 15) = true ∧
      ready.dock.dockRoom (.trailer 15) = false ∧
      (ready.dock.nodes[Dock.terminalNode 23]).status = .notFitted ∧ readBinding ⟨0, 0⟩ = some none ∧
      ((dock0.modNode (Dock.terminalNode 23) ({ · with status := .lost })).nodes[Dock.terminalNode 23]
        ).status ≠ .notFitted := by decide

/-- Node 1 online with misses, in a transaction. -/
def nodeState (misses : Nat) (st : NodeStatus) : State :=
  { dockWith (fun k => k.modNode 0 ({ · with status := st, misses := misses })) with
    transaction := some { node := 0, poll := [] } }

/-- The body of a door report of node 1: present, 620, CLOSED, clear, blower on, drive stopped. -/
def doorReport0 : List Byte := [1, 0x31, 1, 0x02, 0x6C, 0, 0, 1, 0]

theorem witness_FieldLoopTransactions :
    (nodeState 0 .online).inReset = false ∧ (nodeState 0 .online).transaction = some ⟨0, []⟩ ∧
      ({ nodeState 0 .online with transaction := none } : State).dock.nextNode none = some 0 ∧
      (readReport 0 (doorReport0 ++ crcBytes doorReport0)).isSome = true ∧ readReport 0 [1] = none ∧
      ((nodeState 1 .online).dock.nodes[(0 : Fin 48)]).misses < 2 ∧
      2 ≤ ((nodeState 2 .online).dock.nodes[(0 : Fin 48)]).misses ∧
      ((nodeState 2 .online).dock.nodes[(0 : Fin 48)]).status = .online ∧
      ((nodeState 3 .lost).dock.nodes[(0 : Fin 48)]).status = .lost ∧
      ((nodeState 3 .lost).dock.nodes[(0 : Fin 48)]).status ≠ .notFitted := by decide +kernel

theorem witness_FieldLoopTransactions_loss :
    let k := fun (n : Fin 48) (st : DoorState) (through : Nat) =>
      (doorDock st 0 through).modNode n ({ · with status := .online, misses := 2 })
    (15 : Fin 48) = Dock.doorNode 15 ∧ (23 : Fin 48) = Dock.zoneNode 7 ∧
      (47 : Fin 48) = Dock.terminalNode 23 ∧
      (∀ n : Fin 48, ((k n .open 0).nodes[n]).status = .online ∧ 2 ≤ ((k n .open 0).nodes[n]).misses) ∧
      ((k 15 .open 1).doors[(15 : Fin 16)]).state = .open ∧
      ((k 15 .open 1).doors[(15 : Fin 16)]).through ≠ 0 ∧
      ((k 15 .closePending 0).doors[(15 : Fin 16)]).state = .closePending ∧
      ((k 15 .released 0).doors[(15 : Fin 16)]).state = .released ∧
      ((k 15 .resync 0).doors[(15 : Fin 16)]).state = .resync := by decide +kernel

theorem witness_ClockRuns :
    ready.inReset = false ∧ ready.dock.running < 4294967295 ∧
      (dockWith ({ · with running := 4294967295 })).dock.running = 4294967295 ∧
      Ready ready .site (.setClock 0) := by decide

/-! ### Witnesses: invariants -/

/-- A part whose next command is the assertion of the plant-stop line. -/
def busy : State := { State.reset with pending := [.plantStopAssertion] }

theorem witness_step_busy : (match step busy with
    | .next t => t.dock.plantStop
    | _ => false) = true := by decide +kernel

theorem witness_HoldTableKept : HoldTableOk busy := by
  refine ⟨?_, ?_, ?_⟩
  · intro d l h
    have : (busy.holds[d]).pending = none := by simp [busy, State.reset]
    rw [this] at h; cases h
  · intro _ h; cases h
  · intro _ h; cases h

theorem witness_LinkBoundsKept : LinksOk busy ∧ QueuesOk busy.dock := by
  refine ⟨⟨⟨by decide, by decide, trivial⟩, ⟨by decide, by decide, trivial⟩⟩, ?_⟩
  intro l; cases l <;> decide

theorem witness_AlarmListKept : AlarmsOk busy.dock := by
  refine ⟨by decide, by decide, ?_, ?_, by decide⟩
  · intro e h; cases h
  · intro e h; cases h

theorem witness_OutputLevelsKept : ChannelsOk busy.dock ∧ GatesOk busy.dock := by
  unfold ChannelsOk GatesOk; decide +kernel

theorem witness_PalletTableKept : PalletsOk busy.dock := by
  refine ⟨by decide, ?_, by decide, ?_, ?_, ?_⟩ <;> intro e h <;> cases h

/-! ### Single steps from the rules and the worked examples of spec/ -/

/-- Chapter 1, mean and rounding: sums −745 of 3, −499 of 2 and −497 of 2. -/
theorem test_rounding_modes :
    (roundedMean .towardWarm (-745) 3, roundedMean .towardCold (-745) 3, roundedMean .nearestEven (-745) 3) =
        (-248, -249, -248) ∧
      (roundedMean .towardWarm (-499) 2, roundedMean .towardCold (-499) 2, roundedMean .nearestEven (-499) 2) =
        (-249, -250, -250) ∧
      (roundedMean .towardWarm (-497) 2, roundedMean .towardCold (-497) 2, roundedMean .nearestEven (-497) 2) =
        (-248, -249, -248) := by decide

/-- Chapter 1, losing and recovering: zone 2 with probes 6 (offset 0) and 9 (offset +3). -/
def probeDock (now : Nat) (s6 s9 : ProbeStatus) : Dock :=
  { ((dock0.modZone 2 ({ · with rounding := .nearestEven, tz := -238, tempStatus := .valid })).modProbe 6
      ({ · with bound := some 2, raw := -238, readTime := 1012, status := s6 })).modProbe 9
      ({ · with bound := some 2, offset := 3, raw := 700, readTime := 1012, status := s9 }) with
    running := now }

/-- 1132: with probe 9 stale already, probe 6's expiry leaves no contribution. -/
theorem test_staleness_substitutes :
    after (exec (.stalenessTimerExpiry 6) (ready.on (probeDock 1132 .ok .stale)))
      (fun t => ((t.dock.zones[(2 : Fin 8)]).tz, (t.dock.zones[(2 : Fin 8)]).tempStatus,
        t.dock.alarms.map (·.kind))) = some (-180, .substituted, [.probesLost]) := by decide +kernel

/-- 1400: the report −236, −240 gives S = −473, n = 2 and the even neighbour −236, inexact. -/
theorem test_zone_report_rounds :
    let z := (((probeDock 1400 .stale .stale).zoneUpdate 2 (some [-236, -240])).zones[(2 : Fin 8)])
    (z.tz, z.tempStatus, z.inexact) = (-236, .valid, true) := by decide +kernel

/-- R216, R2, R17: a zone number above 7 is BAD_ARG, an unfitted zone NO_SUCH. -/
theorem test_zone_numbers :
    let s := dockWith (fun k => { k with commissioning := { k.commissioning with zones := 7 } })
    (s.dock.readZone 8 0).2.status = .badArg ∧ (s.dock.readZone 0xFF 0).2.status = .badArg ∧
      (s.dock.readZone 7 0).2.status = .noSuch ∧ (s.dock.setZone { setZone0 0 with zone := 8 }).2.status = .badArg ∧
      (s.dock.setProbe ⟨31, 8, 0⟩).2.status = .badArg ∧ (s.dock.setProbe ⟨31, 7, 0⟩).2.status = .noSuch := by
  decide

/-- R218: SET_ZONE reports INEXACT as it stood before the request that sets it. -/
theorem test_set_zone_inexact :
    let k := (dock0.modProbe 6 ({ · with bound := some 0, raw := -250, status := .ok })).modProbe 9
      ({ · with bound := some 0, raw := -251, status := .ok })
    let r := k.setZone (setZone0 0)
    ((r.1.zones[(0 : Fin 8)]).inexact, r.2.data[19]?) = (true, some 0) := by decide +kernel

/-- R4, R5: a probe unbound at second 50 keeps the reading time 40 that it had, and reports it. -/
theorem test_unbound_probe_record :
    let k : Dock := { dock0.modProbe 6 ({ · with bound := some 0, raw := 9, readTime := 40, status := .ok }) with
      running := 50 }
    (k.setProbe ⟨6, 0xFF, 2⟩).2.data = [0xFF, 2, 0, 0, 0, 0, 0, 40, 3] := by decide +kernel

/-- Chapter 2: pallet 4410217 of class 0 in lane 5 of zone 1 at −52; class 3 as configured there. -/
def warmPallet (x f stamp rev : Nat) (g : Grade) : Pallet :=
  { pallet0 (.at (.lane 5)) with
    tag := 4410217, exposure := x, residue := f, stamp := stamp, revision := BitVec.ofNat 16 rev, grade := g }
def warmDock (p : Pallet) (now : Nat) : Dock :=
  { dock0 with
    running := now
    zones := tmod dock0.zones 1 ({ · with tz := -52, tempStatus := .valid, refresh := some (now - 60) })
    lanes := tmod dock0.lanes 5 ({ · with zone := 1, capacity := 12, occupied := 1 })
    classes := tmod dock0.classes 3 ({ · with limit := -150, budget := 700, warn := 224 })
    pallets := [(7, p)] }

/-- What a test reads of the record in slot 7. -/
structure Slot7 where
  exposure : Nat
  residue : Nat
  grade : Grade
  revision : Nat
  quarantine : Bool
  deriving DecidableEq, Repr
def slot7 (t : State) : Option Slot7 :=
  (t.dock.palletAt 7).map (fun p => ⟨p.exposure, p.residue, p.grade, p.revision.toNat, p.quarantine⟩)

/-- 21,000: a zone update charges 45 s. -/
theorem test_zone_update_accrues :
    after (exec (.refreshTimerExpiry 1) (ready.on (warmDock (warmPallet 380 300 20955 2 .ok) 21000))) slot7 =
      some (some ⟨476, 300, .warn, 3, false⟩) := by decide +kernel

/-- 21,058: the charge reaches the budget; the record is quarantined and EXPOSURE_SPENT raised. -/
theorem test_spent_quarantines :
    after (exec (.readPallet .floor 0 4410217) (ready.on (warmDock (warmPallet 540 300 21030 4 .warn) 21058)))
      (fun t => (slot7 t, t.dock.alarms.map (·.kind), replyOn .floor t |>.head?)) =
      some (some ⟨600, 44, .spent, 5, true⟩, [.exposureSpent], some 0) := by decide +kernel

/-- 21,070 and 21,075: a stale revision is answered with the revision that stands; then budget 700 and
class 3 take effect after 17 s charged under class 0. -/
theorem test_amend_stale :
    after (exec (.amendPallet .site 0 ⟨4410217, 4, 3, 700, 3⟩)
        (ready.on (warmDock (warmPallet 600 44 21058 5 .spent) 21070)))
      (fun t => (slot7 t, replyOn .site t)) =
      some (some ⟨600, 44, .spent, 5, false⟩, [0x25, 0, 5]) := by decide +kernel

theorem test_amend_budget_and_class :
    after (exec (.amendPallet .site 0 ⟨4410217, 5, 3, 700, 3⟩)
        (ready.on (warmDock (warmPallet 600 44 21058 5 .spent) 21075))) slot7 =
      some (some ⟨636, 300, .warn, 7, false⟩) := by decide +kernel

/-- Chapter 3: ring 3 with head 30 and the three posts of the example, at a number of waiting entries. -/
def posts : List RawMove :=
  [⟨5001, ⟨1, 3⟩, ⟨2, 5⟩, 1, 0⟩, ⟨5002, ⟨1, 3⟩, ⟨2, 5⟩, 0, 300⟩, ⟨5003, ⟨1, 3⟩, ⟨3, 6⟩, 1, 900⟩]
def unloadDock (head : Fin 32) (waiting : List Descriptor) (loc : Loc) : Dock :=
  { (((dock0.modLane 5 ({ · with zone := 1, capacity := 3, occupied := 1 })).modDoor 3
      ({ · with state := .open, trailer := some { id := 9, direction := .inbound } })).modRing 3
      ({ · with head := head, waiting := waiting, state := .run })).modDefrost 6 ({ · with frost := 3140 }) with
    running := 40140
    pallets := [(0, { pallet0 loc with tag := 5001 }), (1, { pallet0 loc with tag := 5003 })] }

/-- The descriptors that POST_MOVES writes for them. -/
def postedMoves : List Descriptor := (readEvery (readMove 3) posts).getD []

theorem test_post_moves_wraps :
    after (exec (.postMoves .site 0 ⟨3, posts⟩) (ready.on (unloadDock 30 [] (.at (.trailer 3)))))
      (replyOn .site ·) = some [0, 3, 30, 31, 0, 3] := by decide +kernel

/-- 40,140: the pick of 5001 reserves a place in lane 5 and raises the through-door count. -/
theorem test_pick_accepted :
    let k := (unloadDock 30 postedMoves (.at (.trailer 3))).pickScan 2 (.trailer 3) 5001
    ((k.lanes[(5 : Fin 24)]).occupied, (k.lanes[(5 : Fin 24)]).reserved, (k.doors[(3 : Fin 16)]).through,
        (k.palletAt 0).map (fun p => (p.loc, p.revision))) = (1, 1, 1, some (.transit 3 30, 1)) := by
  decide +kernel

/-- 40,130: a scan of a pallet that is not the head marks the trailer's ring UNPLANNED. -/
theorem test_pick_not_head :
    let k := (unloadDock 30 postedMoves (.at (.trailer 3))).pickScan 2 (.trailer 3) 5003
    ((k.rings[(3 : Fin 20)]).unplanned, (k.rings[(3 : Fin 20)]).lastRefusal, k.alarms.map (·.kind)) =
      (true, some ⟨.notHead, 5003, 2⟩, [.unplannedScan]) := by decide +kernel

/-- 40,380: the last place adds the room quantum, empties the ring and sets DRAINED. -/
theorem test_place_drains :
    let m := ((readEvery (readMove 3) posts).getD []).drop 2
    let k := (unloadDock 0 (m.map ({ · with status := .picked, pickTime := some 40320 })) (.transit 3 0)).placeScan
      9 (.room 6) 5003
    ((k.defrosts[(6 : Fin 8)]).frost, (k.rings[(3 : Fin 20)]).head, (k.rings[(3 : Fin 20)]).state,
        (k.rings[(3 : Fin 20)]).drained, (k.palletAt 1).map (·.loc)) =
      (3160, 1, .halted, true, some (.at (.room 6))) := by decide +kernel

/-- Chapter 4: door 5 in a state with a retry count and a seal-lost flag, at a running second. -/
def leakDock (st : DoorState) (through retry now : Nat) (lost : Bool) : Dock :=
  { (dock0.modDoor 5 ({ · with
      state := st, through := through, retry := retry, sealLost := lost, closeRequested := lost,
      trailer := some { id := 77120, direction := .inbound }
      timers := { leakGrace := if lost then none else some 50118 } })) with running := now }

/-- 50,126: the leak grace runs out with one move in flight. -/
theorem test_leak_grace_waits :
    after (exec (.leakGraceExpiry 5) (ready.on (leakDock .open 1 0 50126 false)))
      (fun t => let d := t.dock.doors[(5 : Fin 16)]
        (d.state, d.sealLost, d.closeRequested, d.timers.closeWait, t.dock.alarms.map (·.kind))) =
      some (.closePending, true, true, some 50126, [.sealLost]) := by decide +kernel

/-- 50,148: an obstruction reverses the door. -/
theorem test_obstruction_reverses :
    let d := ((leakDock .closing 0 0 50148 true).doorReport 5
      { presence := true, pressure := 390, position := .between, obstruction := true }).doors[(5 : Fin 16)]
    (d.state, d.retry, d.closeRequested, d.timers.travel) = (.opening, 1, true, some 50148) := by
  decide +kernel

/-- 50,176: the door closes on a seal that does not hold. -/
theorem test_close_reseals :
    let d := ((leakDock .closing 0 1 50176 true).doorReport 5
      { presence := true, pressure := 390, position := .closed, obstruction := false }).doors[(5 : Fin 16)]
    (d.state, d.retry, d.sealLost, d.closeRequested, d.timers.inflate) =
      (.inflating, 0, false, false, some 50176) := by decide +kernel

/-- Chapter 5: one slot, held by a zone in DRIPPING; zone 6 DUE with frost load 18,030. -/
def slotDock (dripping : Fin 8) (f : Nat) (now : Nat) : Dock :=
  { ((dock0.modDefrost dripping ({ · with
      phase := .dripping, gate := .closed, slot := true, frost := f
      drip := some (now - 180) })).modZone dripping ({ · with tz := -150, tempStatus := .valid })).modDefrost 6
      ({ · with phase := .due, frost := 18030 }) with slotLimit := 1, running := now }

/-- 62,000: zone 1 passes to RECOVERY, its slot goes to zone 6, which passes on into DEFROSTING. -/
theorem test_slot_handed_on :
    after (exec (.dripTimerExpiry 1) (ready.on (slotDock 1 20312 62000)))
      (fun t => ((t.dock.defrosts[(1 : Fin 8)]).phase, (t.dock.defrosts[(1 : Fin 8)]).gate,
        (t.dock.defrosts[(6 : Fin 8)]).phase, (t.dock.defrosts[(6 : Fin 8)]).gate)) =
      some (.recovery, .open, .defrosting, .closed) := by decide +kernel

/-- 61,000: of two DUE zones the one with the larger frost load wins and holds, its zone not clear. -/
theorem test_arbiter_prefers_frost :
    after (exec (.dripTimerExpiry 3)
        (ready.on ((slotDock 3 0 61000).modDefrost 1
          ({ · with phase := .due, frost := 20040, moves := 1, openDoors := 1 }))))
      (fun t => ((t.dock.defrosts[(1 : Fin 8)]).phase, (t.dock.defrosts[(1 : Fin 8)]).deferral,
        (t.dock.defrosts[(6 : Fin 8)]).phase)) = some (.holding, some 61000, .due) := by decide +kernel

/-- Chapter 6: zone 2 DEFROSTING with heater ON and fans OFF, both agreed. -/
def heatDock (now : Nat) : Dock :=
  { ((dock0.modDefrost 2 ({ · with
      phase := .defrosting, gate := .closed, slot := true
      duration := some 70000 })).modChannel 36
      ({ · with latch := .on, armed := true, effective := .on, feedback := some .on })).modChannel 37
      ({ · with latch := .off, armed := true, effective := .off, feedback := some .off }) with
    running := now }

/-- 70,400: the assertion forces the heater OFF, aborts the defrost and starts the mismatch timer. -/
theorem test_plant_stop_aborts :
    after (exec .plantStopAssertion (ready.on (heatDock 70400)))
      (fun t => ((t.dock.channels[(36 : Fin 48)]).effective, (t.dock.channels[(36 : Fin 48)]).check,
        (t.dock.channels[(37 : Fin 48)]).check, (t.dock.defrosts[(2 : Fin 8)]).phase,
        t.dock.alarms.map (·.kind))) =
      some (.off, .timing 70400, .agree, .dripping, [.plantStop, .defrostAborted]) := by decide +kernel

/-- 70,430: a heater that reports ON against an effective OFF is stuck. -/
theorem test_heater_stuck :
    after (exec (.mismatchTimerExpiry 36)
        (ready.on ((heatDock 70430).modChannel 36
          ({ · with latch := .off, effective := .off, check := .timing 70400 }))))
      (fun t => ((t.dock.channels[(36 : Fin 48)]).check, t.dock.alarmLine)) =
      some (.raised .heaterStuck, true) := by decide +kernel

/-- R141: a report made the feedback UNKNOWN while the timer ran; the expiry is an OUTPUT_MISMATCH. -/
theorem test_mismatch_unknown :
    after (exec (.mismatchTimerExpiry 36)
        (ready.on ((heatDock 70430).modChannel 36
          ({ · with effective := .off, feedback := none, check := .timing 70400 }))))
      (fun t => ((t.dock.channels[(36 : Fin 48)]).check, t.dock.alarms.map (·.kind))) =
      some (.raised .mismatch, [.outputMismatch]) := by decide +kernel

/-- Chapter 7, 1,204,610, with two of the acknowledged entries: one acknowledged, two removed. -/
def entry (kind : AlarmKind) (subj : Subject) (st : AlarmState) : AlarmEntry :=
  { kind := kind, subject := subj, first := 0, last := 0, repeats := 1, state := st }
def ackDock : Dock :=
  { dock0 with
    alarms := [entry .nodeLost (.node 2) .activeAck, entry .doorObstructed (.door 2) .activeUnack,
      entry .closeForced (.door 9) .clearedUnack]
    overflow := some (entry .listOverflow .site .clearedUnack)
    alarmLine := true }

theorem test_ack_all :
    after (exec (.ackAll .floor 0) (ready.on ackDock))
      (fun t => (replyOn .floor t, t.dock.alarms.map (·.state), t.dock.overflow, t.dock.alarmLine)) =
      some ([0, 1, 2, 2], [.activeAck, .activeAck], none, false) := by decide +kernel

/-- Chapter 8, 40,205 and 40,400: a dropped hold passes on; a forced take leaves no pending link. -/
theorem test_drop_passes_hold :
    after (exec (.dropHold .site 0 15) (holdState (some .site) (some .floor)))
      (fun t => (t.holds[(15 : Fin 16)], replyOn .site t)) =
      some (⟨some .floor, none⟩, [0, 15, 2, 0]) := by decide +kernel

theorem test_force_takes_hold :
    after (exec (.takeHoldForce .site 0 15) (holdState (some .floor) (some .site)))
      (fun t => (t.holds[(15 : Fin 16)], replyOn .site t)) =
      some (⟨some .site, none⟩, [0, 15, 1, 0]) := by decide +kernel

/-- Chapter 9, 81,001: the third miss loses the node of an OPEN door with a move in flight. -/
theorem test_node_lost :
    after (exec .replyWindowExpiry
        { dockWith (fun k => (k.modNode 4 ({ · with status := .online, misses := 2 })).modDoor 4
            ({ · with state := .open, through := 1 })) with transaction := some { node := 4, poll := [] } })
      (fun t => ((t.dock.nodes[(4 : Fin 48)]).status, (t.dock.doors[(4 : Fin 16)]).state,
        (t.dock.channels[(8 : Fin 48)]).check, (t.dock.channels[(9 : Fin 48)]).check,
        t.dock.alarms.map (·.kind))) =
      some (.lost, .closePending, .suspended, .suspended, [.nodeLost]) := by decide +kernel

/-- R142: the drive of an OPENING door reports STOP, is RAISED, and stays so when the door's node is lost
and the door enters FAULT. -/
theorem test_node_lost_keeps_raised :
    let k := ((dock0.modNode 4 ({ · with status := .online, misses := 2 })).modDoor 4
      ({ · with state := .opening })).modChannel 9
      ({ · with latch := .open, armed := true, effective := .open, feedback := some .stop
                check := .raised .mismatch })
    let k' := k.missedReply 4
    ((k'.doors[(4 : Fin 16)]).state, (k'.channels[(9 : Fin 48)]).check, (k'.channels[(9 : Fin 48)]).effective,
        (k'.channels[(9 : Fin 48)]).feedback) = (.fault, .raised .mismatch, .stop, none) := by decide +kernel

/-- R147: the fans of zone 7 stand RAISED and safe after a restart. The first report shows them OFF, which
clears their condition; the command ON that follows at the first update starts a new grace. -/
theorem test_first_report_meets_safe_level :
    let k := (((dock0.raise .outputMismatch (.channel 47)).modNode 23 ({ · with status := .online })).modDefrost 7
      ({ · with awaitingUpdate := true })).modChannel 47 ({ · with check := .raised .mismatch })
    let k' := k.goodReply 23 (.zone [] none (some .off) (some .off))
    ((k'.channels[(47 : Fin 48)]).check, (k'.channels[(47 : Fin 48)]).effective,
        k'.alarms.map (fun e => (e.kind, e.state))) =
      (.timing 0, .on, [(.outputMismatch, .clearedUnack)]) := by decide +kernel

/-- R212: the RING_DRAINED of an emptied ring takes a sequence number and is never sent. -/
theorem test_restart_drains :
    let s := ready.on { unloadDock 30 postedMoves (.at (.trailer 3)) with
      commissioning := { done := true, siteNumber := 1, doors := 0, zones := 0 }, pallets := []
      siteNotices := { groups := 2 } }
    after (exec (.restart .site 0) s) (fun t => (t.dock.siteNotices.sequence, t.dock.siteNotices.queue)) =
      some (1, []) := by decide +kernel

/-- Chapter 10, 1.8: a third request finds both places taken and is answered OVERRUN. -/
theorem test_overrun :
    after (exec (.readZone .site 42 1 0) (full 0)) (fun t => t.site.replies.map (fun r => (r.tag, r.body))) =
      some [(42, [0x15])] := by decide +kernel

/-- Chapter 11, frames 1, 3, 4 and 5 of the ADMIT example. -/
def admitState : State :=
  dockWith (fun k => k.modLane 5 ({ · with zone := 1, capacity := 12, occupied := 3 }))

theorem test_admit_two :
    after (exec (.admitPallets .site 0 ⟨⟨2, 5⟩, [⟨6101, 0, 0, 0⟩, ⟨6102, 1, 1, 900⟩]⟩) admitState)
      (fun t => ((t.dock.lanes[(5 : Fin 24)]).occupied, t.dock.pallets.map (fun e => (e.1, e.2.budget)))) =
      some (5, [(0, 600), (1, 900)]) := by decide +kernel

theorem test_admit_refused :
    after (exec (.admitPallets .site 0 ⟨⟨2, 5⟩, []⟩) admitState) (replyOn .site ·) = some [0x20] ∧
      after (exec (.admitPallets .site 0 ⟨⟨2, 5⟩, [⟨6103, 2, 1, 0⟩]⟩) admitState) (replyOn .site ·) = some [0x20] ∧
      after (exec (.admitPallets .site 0 ⟨⟨2, 5⟩, [⟨6103, 2, 2, 0⟩]⟩) admitState) (replyOn .site ·) = some [0x20] := by
  decide +kernel

/-- R192: running seconds 100 and site time 50 give the offset −50. -/
theorem test_set_clock :
    after (exec (.setClock .site 0 50) (dockWith ({ · with running := 100 }))) (replyOn .site ·) =
      some [0, 0, 0, 0, 100, 0xFF, 0xFF, 0xFF, 0xCE, 0, 0, 0, 50] := by decide +kernel

end Sys2Proof.Tests
end

/-! PROOFS. Zone temperatures and the INEXACT flag (R9 to R13, R17): the rounded mean, what handing a new Tz
on leaves of a zone, a request answered from the dock's records, and the statement RoundingModesRight. -/

namespace Sys2Proof.Machine

/-! ### The rounded mean (R11) -/

section RoundedMean

variable {s : Int} {n : Nat}

/-- The quotient and the remainder from which `roundedMean` is computed. -/
theorem sum_eq_quotient_remainder (s : Int) (hn : 0 < n) :
    s / n * n + s % n = s ∧ 0 ≤ s % n ∧ s % n < n :=
  ⟨Int.ediv_mul_add_emod s n, Int.emod_nonneg s (by omega), Int.emod_lt_of_pos s (by omega)⟩

/-- TOWARD_WARM is the smallest integer not below `s / n`. -/
theorem roundedMean_towardWarm_bounds (hn : 0 < n) :
    s ≤ roundedMean .towardWarm s n * n ∧ (roundedMean .towardWarm s n - 1) * n < s := by
  obtain ⟨hs, hlow, hhigh⟩ := sum_eq_quotient_remainder s hn
  by_cases hrest : s % n = 0
  · simp only [roundedMean, hrest, if_true]
    constructor <;> linarith
  · have hpos : 0 < s % n := by omega
    simp only [roundedMean, hrest, if_false]
    constructor <;> linarith

/-- TOWARD_COLD is the largest integer not above `s / n`. -/
theorem roundedMean_towardCold_bounds (hn : 0 < n) :
    roundedMean .towardCold s n * n ≤ s ∧ s < (roundedMean .towardCold s n + 1) * n := by
  obtain ⟨hs, hlow, hhigh⟩ := sum_eq_quotient_remainder s hn
  simp only [roundedMean]
  constructor <;> linarith

/-- NEAREST_EVEN takes one of the two neighbours of `s / n`: the lower one with a remainder of at most half of
`n`, the upper one with a remainder of at least half, and of two equally near ones the even one. -/
theorem roundedMean_nearestEven_cases (s : Int) (n : Nat) :
    (roundedMean .nearestEven s n = s / n ∧ 2 * (s % n) ≤ n ∧ (2 * (s % n) = n → s / n % 2 = 0)) ∨
    (roundedMean .nearestEven s n = s / n + 1 ∧ n ≤ 2 * (s % n) ∧
      (2 * (s % n) = n → (s / n + 1) % 2 = 0)) := by
  simp only [roundedMean]
  by_cases hbelow : 2 * (s % n) < n
  · exact .inl ⟨if_pos hbelow, by omega, by omega⟩
  · by_cases habove : (n : Int) < 2 * (s % n)
    · exact .inr ⟨by simp [hbelow, habove], by omega, by omega⟩
    · by_cases heven : s / n % 2 = 0
      · exact .inl ⟨by simp [hbelow, habove, heven], by omega, fun _ => heven⟩
      · exact .inr ⟨by simp [hbelow, habove, heven], by omega, by omega⟩

/-- NEAREST_EVEN is within half of `s / n`, and even at a tie. -/
theorem roundedMean_nearestEven_bounds (hn : 0 < n) :
    -(n : Int) ≤ 2 * (roundedMean .nearestEven s n * n - s) ∧
    2 * (roundedMean .nearestEven s n * n - s) ≤ n ∧
    (2 * (roundedMean .nearestEven s n * n - s) = n ∨
      2 * (roundedMean .nearestEven s n * n - s) = -(n : Int) →
      roundedMean .nearestEven s n % 2 = 0) := by
  obtain ⟨hs, hlow, hhigh⟩ := sum_eq_quotient_remainder s hn
  obtain ⟨hmean, hhalf, htie⟩ | ⟨hmean, hhalf, htie⟩ := roundedMean_nearestEven_cases s n
  · have hdist : s / n * n - s = -(s % n) := by linarith
    rw [hmean, hdist]
    exact ⟨by omega, by omega, fun _ => htie (by omega)⟩
  · have hdist : (s / n + 1) * n - s = n - s % n := by linarith
    rw [hmean, hdist]
    exact ⟨by omega, by omega, fun _ => htie (by omega)⟩

/-- Every mode gives the exact mean when there is one. -/
theorem roundedMean_of_dvd (hn : 0 < n) (h : (n : Int) ∣ s) (mode : Rounding) :
    roundedMean mode s n = s / n := by
  have hrest : s % n = 0 := Int.emod_eq_zero_of_dvd h
  cases mode with
  | towardWarm => simp [roundedMean, hrest]
  | towardCold => rfl
  | nearestEven => simp [roundedMean, hrest, hn]

theorem meanInexact_eq_false_iff : meanInexact s n = false ↔ (n : Int) ∣ s := by
  simp [meanInexact]

end RoundedMean

/-! ### What a zone holds apart from its watches

Handing a new Tz on (R13) moves watches, doors and defrosts; of a zone record it writes the two watches alone. -/

/-- A zone record with both watches set aside. -/
def Zone.unwatched (zn : Zone) : Zone := { zn with warm := .quiet, cold := .quiet }

@[simp] theorem Zone.unwatched_tz (zn : Zone) : zn.unwatched.tz = zn.tz := rfl
@[simp] theorem Zone.unwatched_inexact (zn : Zone) : zn.unwatched.inexact = zn.inexact := rfl

/-- The zone table with all watches set aside. -/
def Dock.unwatched (k : Dock) : Table Zone 8 := k.zones.map Zone.unwatched

namespace Dock

variable {k k' : Dock}

theorem unwatched_of_zones (h : k'.zones = k.zones) : k'.unwatched = k.unwatched := by
  simp [Dock.unwatched, h]

/-- Tables that agree apart from the watches agree so at each zone. -/
theorem zone_unwatched (h : k'.unwatched = k.unwatched) (z : Fin 8) :
    (k'.zones[z]).unwatched = (k.zones[z]).unwatched := by
  simpa [Dock.unwatched] using congrArg (fun t : Table Zone 8 => t[z]) h

/-- A change of a record's watches alone. -/
theorem modZone_unwatched (z : Fin 8) {f : Zone → Zone} (h : ∀ zn, (f zn).unwatched = zn.unwatched) :
    (k.modZone z f).unwatched = k.unwatched := by
  simp only [Dock.unwatched, modZone_zones]
  ext i hi : 1
  have hget : (tmod k.zones z f)[i] = if z = ⟨i, hi⟩ then f k.zones[i] else k.zones[i] :=
    tmod_get k.zones z ⟨i, hi⟩ f
  rw [Vector.getElem_map, Vector.getElem_map, hget]
  split
  · exact h _
  · rfl

@[simp] theorem modZone_warm_unwatched (z : Fin 8) (w : Watch) :
    (k.modZone z ({ · with warm := w })).unwatched = k.unwatched := modZone_unwatched z (fun _ => rfl)

@[simp] theorem modZone_cold_unwatched (z : Fin 8) (w : Watch) :
    (k.modZone z ({ · with cold := w })).unwatched = k.unwatched := modZone_unwatched z (fun _ => rfl)

@[simp] theorem modDefrost_unwatched (z : Fin 8) (f : Defrost → Defrost) :
    (k.modDefrost z f).unwatched = k.unwatched := rfl

@[simp] theorem modDoor_unwatched (d : Fin 16) (f : Door → Door) :
    (k.modDoor d f).unwatched = k.unwatched := rfl

@[simp] theorem clearCondition_unwatched (a : AlarmKind) (subj : Subject) :
    (k.clearCondition a subj).unwatched = k.unwatched := unwatched_of_zones (by simp)

@[simp] theorem commandPhase_unwatched (z : Fin 8) : (k.commandPhase z).unwatched = k.unwatched :=
  unwatched_of_zones (by simp)

@[simp] theorem phaseNotice_unwatched (z : Fin 8) (old : Phase) :
    (k.phaseNotice z old).unwatched = k.unwatched := unwatched_of_zones (by simp)

@[simp] theorem warmCompare_unwatched (z : Fin 8) : (k.warmCompare z).unwatched = k.unwatched := by
  simp only [warmCompare]; (repeat' split) <;> simp

@[simp] theorem coldCompare_unwatched (z : Fin 8) : (k.coldCompare z).unwatched = k.unwatched := by
  simp only [coldCompare]; (repeat' split) <;> simp

@[simp] theorem suspendWarm_unwatched (z : Fin 8) : (k.suspendWarm z).unwatched = k.unwatched := by
  simp only [suspendWarm]; split <;> simp

@[simp] theorem tellMonitor_unwatched (z : Fin 8) (old new : Phase) :
    (k.tellMonitor z old new).unwatched = k.unwatched := by
  simp only [tellMonitor]; (repeat' split) <;> simp

@[simp] theorem enterPhase_unwatched (z : Fin 8) (ph : Phase) :
    (k.enterPhase z ph).unwatched = k.unwatched := by
  simp [enterPhase]

@[simp] theorem clearTest_unwatched (z : Fin 8) : (k.clearTest z).unwatched = k.unwatched := by
  simp only [clearTest]; split <;> simp

@[simp] theorem grant_unwatched (z : Fin 8) : (k.grant z).unwatched = k.unwatched := by
  simp [grant]

theorem arbiterLoop_unwatched (n : Nat) (k : Dock) : (arbiterLoop n k).unwatched = k.unwatched := by
  induction n generalizing k with
  | zero => rfl
  | succ n ih =>
    simp only [arbiterLoop]
    split
    · split
      · rfl
      · rw [ih, grant_unwatched]
    · rfl

@[simp] theorem enterDue_unwatched (z : Fin 8) : (k.enterDue z).unwatched = k.unwatched := by
  simp [enterDue, arbiter, arbiterLoop_unwatched]

@[simp] theorem dueTest_unwatched (z : Fin 8) : (k.dueTest z).unwatched = k.unwatched := by
  simp only [dueTest]; split <;> simp

@[simp] theorem addFrost_unwatched (z : Fin 8) (n : Nat) : (k.addFrost z n).unwatched = k.unwatched := by
  simp [addFrost]

@[simp] theorem recoveryTest_unwatched (z : Fin 8) : (k.recoveryTest z).unwatched = k.unwatched := by
  simp only [recoveryTest, endDefrost]; split <;> simp

@[simp] theorem clearRecoveryLate_unwatched (z : Fin 8) :
    (k.clearRecoveryLate z).unwatched = k.unwatched := unwatched_of_zones (by simp)

@[simp] theorem firstUpdate_unwatched (z : Fin 8) : (k.firstUpdate z).unwatched = k.unwatched := by
  simp only [firstUpdate]; split <;> simp

@[simp] theorem feed_unwatched (d : Fin 16) : (k.feed d).unwatched = k.unwatched := by
  simp only [feed]; split <;> simp

@[simp] theorem feedDoors_unwatched (z : Fin 8) : (k.feedDoors z).unwatched = k.unwatched := by
  simp only [feedDoors]
  split
  · exact foldl_keeps Dock.unwatched _ (fun k d => by simp) _ _
  · rfl

theorem handOff_unwatched (z : Fin 8) : (k.handOff z).unwatched = k.unwatched := by
  simp [handOff]

/-! ### The zone update (R9 to R13) -/

theorem contributions_of_probes (h : k'.probes = k.probes) (z : Fin 8) :
    k'.contributions z = k.contributions z := by
  simp [contributions, boundProbes, h]

/-- R9: an update that a report causes is an update of the dock that has taken the readings in. -/
theorem zoneUpdate_some (z : Fin 8) (rs : List Int) :
    k.zoneUpdate z (some rs) = (k.intake z rs).zoneUpdate z none := rfl

theorem newTemperature_of_contributions {z : Fin 8} (h : k.contributions z ≠ []) :
    k.newTemperature z = k.measured z (k.contributions z) := by
  simp [newTemperature, h]

/-- R10, R11: what the mean of at least one contribution writes. -/
theorem measured_zones (z : Fin 8) (cs : List Int) :
    (k.measured z cs).zones = tmod k.zones z (fun zn =>
      { zn with
        tz := roundedMean (k.zones[z]).rounding cs.sum cs.length, tempStatus := .valid
        lastUpdate := k.running, inexact := (k.zones[z]).inexact || meanInexact cs.sum cs.length }) := by
  simp only [measured]; split <;> simp

/-- R9 to R11: the updated zone's record, its watches apart, when at least one probe contributes. -/
theorem zoneUpdate_of_contributions {z : Fin 8} (h : k.contributions z ≠ []) :
    ((k.zoneUpdate z none).zones[z]).unwatched =
      { (k.zones[z]).unwatched with
        tz := roundedMean (k.zones[z]).rounding (k.contributions z).sum (k.contributions z).length
        tempStatus := .valid
        inexact := (k.zones[z]).inexact || meanInexact (k.contributions z).sum (k.contributions z).length
        lastUpdate := k.running
        refresh := some k.running } := by
  let k1 := k.accrueWhere (k.dependsOn z)
  have hcs : k1.contributions z = k.contributions z := contributions_of_probes (by simp [k1]) z
  have hnew : k1.newTemperature z = k1.measured z (k.contributions z) := by
    rw [newTemperature_of_contributions (by rwa [hcs]), hcs]
  have hupdate : k.zoneUpdate z none = ((k1.measured z (k.contributions z)).restartRefresh z).handOff z := by
    rw [← hnew]; rfl
  rw [hupdate, zone_unwatched (handOff_unwatched z) z]
  simp [restartRefresh, measured_zones, k1, Zone.unwatched]

/-- R11: Tz and INEXACT after an update of a zone with contributions. -/
theorem zoneUpdate_rounds (k : Dock) (z : Fin 8) (h : k.contributions z ≠ []) :
    let cs := k.contributions z
    let zn := (k.zoneUpdate z none).zones[z]
    zn.tz = roundedMean (k.zones[z]).rounding cs.sum cs.length ∧
      (¬ (cs.length : Int) ∣ cs.sum → zn.inexact = true) ∧
      ((cs.length : Int) ∣ cs.sum → zn.inexact = (k.zones[z]).inexact) := by
  intro cs zn
  have hzone := zoneUpdate_of_contributions h
  have htz : zn.tz = roundedMean (k.zones[z]).rounding cs.sum cs.length := by
    rw [← Zone.unwatched_tz, hzone]
  have hflag : zn.inexact = ((k.zones[z]).inexact || meanInexact cs.sum cs.length) := by
    rw [← Zone.unwatched_inexact, hzone]
  refine ⟨htz, fun hn => ?_, fun hd => ?_⟩
  · rw [hflag, Bool.eq_true_of_not_eq_false (mt meanInexact_eq_false_iff.mp hn), Bool.or_true]
  · rw [hflag, meanInexact_eq_false_iff.mpr hd, Bool.or_false]

end Dock

/-! ### A request answered from the dock's records (R198 to R201) -/

/-- A request that passes the checks of LI, whose block lives in the dock's records: it takes its place, the
block performs it, and its reply is made ready. -/
theorem State.request_of_ready {s : State} {l : Link} {r : Request} (tag : Byte) {f : Dock → Dock × Reply}
    (h : Ready s l r) (hblock : ∀ t : State, t.performBlock l r = t.onDock f) :
    s.request l tag r = .next ((s.on (f s.dock).1).answered l tag r (f s.dock).2) := by
  obtain ⟨hlive, hplace, hfits, hcommissioned, hrole, hhold⟩ := h
  let t := s.modLink l (fun e => { e with places := e.places ++ [{ tag := tag, received := .known r }] })
  have hpass : t.linkRefusal l r = none := by
    have hhold' : t.holdPasses l r = true := by simpa [State.holdPasses, t] using hhold
    have hdone : ¬ (t.dock.commissioning.done = false ∧ beforeCommissioning r = false) := by
      rcases hcommissioned with hc | hc <;> simp [t, hc]
    have hpermitted : ¬ (l = .floor ∧ supervisorOnly r = true) := by
      rcases hrole with hl | hl <;> simp [hl]
    simp [State.linkRefusal, hdone, hpermitted, hhold']
  have hperform : t.perform l (.known r) = t.onDock f := by simp [State.perform, hpass, hblock]
  have hdock : t.onDock f = ((s.on (f s.dock).1).modLink l
      (fun e => { e with places := e.places ++ [{ tag := tag, received := .known r }] }), (f s.dock).2) := by
    cases l <;> rfl
  simp [State.request, State.live, hlive, State.receive, hplace, receivedRequest, hfits, receivedCode,
    Config.bufferPlaces, State.answered, hperform, hdock, t]

/-- R17: READ_ZONE of a fitted zone with clearing reports INEXACT as it stood, and clears it. -/
theorem Dock.readZone_clearing {k : Dock} {z : Fin 8} (h : k.zoneFitted z = true) :
    k.readZone (idx z) 1 =
      accept (k.modZone z ({ · with inexact := false })) (k.zoneRecord z (k.zones[z]).inexact) := by
  simp only [Dock.readZone, Dock.zoneOf_index, h, if_true]
  rfl

/-! ### The obligation -/

/-- Settles O21: the bounds of each mode come from the quotient and remainder of the sum, and the zone update
keeps the rounded mean and INEXACT through the handing on of Tz, which writes watches alone. -/
theorem roundingModesRight : Obligations.RoundingModesRight := by
  refine ⟨fun k z readings => ?_, fun s l tag z hready hfitted => ?_, fun s z => ?_, fun s n hn => ?_⟩
  · cases readings with
    | none => exact k.zoneUpdate_rounds z
    | some rs =>
      have hzones : (k.intake z rs).zones = k.zones := by simp
      simpa only [Dock.zoneUpdate_some, hzones] using (k.intake z rs).zoneUpdate_rounds z
  · have hanswer := State.request_of_ready tag hready (f := (·.readZone (idx z) 1)) (fun _ => rfl)
    rw [Dock.readZone_clearing hfitted] at hanswer
    exact hanswer
  · exact ⟨s.powerOn, rfl, by simp [State.powerOn, State.reset, Dock.reset]⟩
  · exact ⟨roundedMean_towardWarm_bounds hn, roundedMean_towardCold_bounds hn,
      roundedMean_nearestEven_bounds hn, fun hdvd mode => by
        rw [roundedMean_of_dvd hn hdvd, Int.ediv_mul_cancel hdvd]⟩

end Sys2Proof.Machine

/-! PROOFS. The accrual of one record (R31): its two cases, up to 65,535 and above, and the statement
AccrualIsExact. -/

namespace Sys2Proof.Machine

/-! ### What an accrual writes (R31) -/

section AccrueRecord

variable {src : Option Source} {c : PalletClass} {now : Nat} {p : Pallet}

/-- R31 steps 1 to 4: the residue and the clamped charge together, N, in units of 1/960 DDM. -/
def unitsDue (src : Option Source) (c : PalletClass) (now : Nat) (p : Pallet) : Nat :=
  p.residue + excess src c * min 900 (now - p.stamp) * c.weight

/-- R31 step 7: whether the accrual marks the record, a substituted source having an excess. -/
def marksSubstituted (src : Option Source) (c : PalletClass) : Bool :=
  decide (0 < excess src c ∧ src.any (·.substituted) = true)

/-- R31 steps 1 to 7 in one record; step 7 says the same for a source and for none. -/
theorem accrueRecord_eq (src : Option Source) (c : PalletClass) (now : Nat) (p : Pallet) :
    accrueRecord src c now p =
      let full := decide (65535 < p.exposure + unitsDue src c now p / 960)
      { p with
        exposure := if full then 65535 else p.exposure + unitsDue src c now p / 960
        residue := if full then 0 else unitsDue src c now p % 960
        saturated := p.saturated || full
        stamp := now
        substituted := p.substituted || marksSubstituted src c } := by
  cases src with
  | none =>
    have hmark : marksSubstituted none c = false := by simp [marksSubstituted]
    rw [hmark]; rfl
  | some t => rw [marksSubstituted, Bool.decide_and, Bool.and_comm, Bool.decide_eq_true]; rfl

/-- R31 step 5 up to 65,535: the quotient goes to the exposure and the remainder stays in the residue. -/
theorem accrueRecord_of_fits (h : p.exposure + unitsDue src c now p / 960 ≤ 65535) :
    accrueRecord src c now p =
      { p with
        exposure := p.exposure + unitsDue src c now p / 960
        residue := unitsDue src c now p % 960
        stamp := now
        substituted := p.substituted || marksSubstituted src c } := by
  simp [accrueRecord_eq, Nat.not_lt.mpr h]

/-- R31 step 5 above 65,535: the record saturates. -/
theorem accrueRecord_of_saturates (h : 65535 < p.exposure + unitsDue src c now p / 960) :
    accrueRecord src c now p =
      { p with
        exposure := 65535
        residue := 0
        saturated := true
        stamp := now
        substituted := p.substituted || marksSubstituted src c } := by
  simp [accrueRecord_eq, h]

end AccrueRecord

/-- R31 step 8: the accrual of a record in the table ends in the recomputation of its grade. -/
theorem Dock.accrue_of_palletAt {k : Dock} {slot : Nat} {p : Pallet} (h : k.palletAt slot = some p) :
    k.accrue slot = (k.modPallet slot (fun _ =>
      accrueRecord (k.source p) k.classes[p.cls] k.running p)).regrade slot := by
  simp only [Dock.accrue, h]

/-! ### The obligation -/

/-- Settles O27: each clause is read off the record that the accrual leaves, up to 65,535 by the division
of the units due by 960 and above from the constants that saturation writes. -/
theorem accrualIsExact : Obligations.AccrualIsExact := by
  refine ⟨fun k slot p => Dock.accrue_of_palletAt, ?_⟩
  intro src c now p hmax dt e n p'
  have hunits : n = unitsDue src c now p := rfl
  have hmark : decide (0 < e ∧ src.any (·.substituted) = true) = marksSubstituted src c := rfl
  rw [hunits, hmark]
  by_cases hfits : p.exposure + unitsDue src c now p / 960 ≤ 65535
  · have hwritten : p' = _ := accrueRecord_of_fits hfits
    rw [hwritten]
    have hdiv := Nat.div_add_mod (unitsDue src c now p) 960
    exact ⟨fun _ => ⟨by dsimp only; omega, rfl⟩, fun hover => absurd hfits (Nat.not_le.mpr hover),
      Nat.le_add_right _ _, hfits, Nat.mod_lt _ (by decide), rfl, rfl, rfl⟩
  · have hwritten : p' = _ := accrueRecord_of_saturates (Nat.not_le.mp hfits)
    rw [hwritten]
    exact ⟨fun h => absurd h hfits, fun _ => ⟨rfl, rfl, rfl⟩,
      hmax, le_rfl, Nat.zero_lt_succ 959, rfl, rfl, rfl⟩

end Sys2Proof.Machine

/-! PROOFS. The operator notes (R172 to R174): a notice addressed to one link, a request answered from the
state beyond the dock's records, the cases of PUT_NOTE and TAKE_NOTE, and the statement NoteRequests. -/

namespace Sys2Proof.Machine

/-! ### A notice addressed to one link (R204) -/

section NoticeToLink

variable {k : Dock} {l : Link} {n : Notice}

/-- R204: a subscribed link's end creates the notice. -/
theorem Dock.noticeEnd_notifyLink_of_subscribed (h : (k.noticeEnd l).subscribed n.group = true) :
    (k.notifyLink l n).noticeEnd l = (k.noticeEnd l).create n := by
  have hoffer : (k.noticeEnd l).offer n = (k.noticeEnd l).create n := if_pos h
  rw [← hoffer]
  cases l <;> rfl

/-- R204: nothing is created for a link that does not subscribe. -/
theorem Dock.notifyLink_of_not_subscribed (h : (k.noticeEnd l).subscribed n.group = false) :
    k.notifyLink l n = k := by
  have hoffer : (k.noticeEnd l).offer n = k.noticeEnd l := if_neg (by simp [h])
  cases l with
  | site => exact congrArg (fun e => { k with siteNotices := e }) hoffer
  | floor => exact congrArg (fun e => { k with floorNotices := e }) hoffer

end NoticeToLink

/-! ### A request and the frame end of its link (R198 to R202)

The blocks that own the requests neither read nor write a link's frame end, so taking a place before the
block acts is the same as taking it afterwards. -/

section RequestOnLink

variable {s : State} {l : Link} {r : Request}

@[simp] theorem State.linkRefusal_modLink (l' : Link) (f : LinkEnd → LinkEnd) :
    (s.modLink l' f).linkRefusal l r = s.linkRefusal l r := by
  simp [State.linkRefusal, State.holdPasses]

/-- R201: checks 3 to 5 pass a request that is ready. -/
theorem State.linkRefusal_of_ready (h : Ready s l r) : s.linkRefusal l r = none := by
  obtain ⟨-, -, -, hcommissioned, hrole, hhold⟩ := h
  have hdone : ¬ (s.dock.commissioning.done = false ∧ beforeCommissioning r = false) := by
    rcases hcommissioned with hc | hc <;> simp [hc]
  have hpermitted : ¬ (l = .floor ∧ supervisorOnly r = true) := by
    rcases hrole with hl | hl <;> simp [hl]
  rw [State.linkRefusal, if_neg hdone, if_neg hpermitted, if_neg (by simp [hhold])]

/-- R198 to R200: a ready request whose block leaves the frame end of its link alone. -/
theorem State.request_of_frame (tag : Byte) (h : Ready s l r)
    (hframe : ∀ f : LinkEnd → LinkEnd, (s.modLink l f).performBlock l r =
      ((s.performBlock l r).1.modLink l f, (s.performBlock l r).2)) :
    s.request l tag r = .next ((s.performBlock l r).1.answered l tag r (s.performBlock l r).2) := by
  have hpass := State.linkRefusal_of_ready h
  obtain ⟨hlive, hplace, hfits, -, -, -⟩ := h
  simp [State.request, State.live, hlive, State.receive, hplace, receivedRequest, hfits, receivedCode,
    Config.bufferPlaces, State.answered, State.perform, hpass, hframe]

end RequestOnLink

/-! ### The note slots (R172) -/

namespace State

section Notes

variable {s : State} {l : Link} {text : List Byte}

@[simp] theorem noteTo_modLink (l l' : Link) (f : LinkEnd → LinkEnd) :
    (s.modLink l' f).noteTo l = s.noteTo l := by
  cases l <;> simp [noteTo]

theorem setNoteTo_modLink (l l' : Link) (f : LinkEnd → LinkEnd) (note : Option (List Byte)) :
    (s.modLink l' f).setNoteTo l note = (s.setNoteTo l note).modLink l' f := by
  cases l <;> cases l' <;> rfl

theorem notifyLink_modLink (l l' : Link) (f : LinkEnd → LinkEnd) (n : Notice) :
    (s.modLink l' f).notifyLink l n = (s.notifyLink l n).modLink l' f := by
  cases l' <;> rfl

/-! ### PUT_NOTE (R173) -/

theorem putNote_of_bad_length (h : text.length = 0 ∨ 64 < text.length) :
    s.putNote l text = refuse s .badArg := by
  have hout : within 1 Config.noteBytes text.length = false := by
    rcases h with hempty | hlong
    · simp [within, hempty]
    · simp [within, Config.noteBytes, Nat.not_le.mpr hlong]
  rw [putNote, if_pos hout]

theorem within_noteBytes (hlo : 1 ≤ text.length) (hhi : text.length ≤ 64) :
    ¬ within 1 Config.noteBytes text.length = false := by
  simp [within, Config.noteBytes, hlo, hhi]

theorem putNote_of_full (hlo : 1 ≤ text.length) (hhi : text.length ≤ 64)
    (h : s.noteTo (otherLink l) ≠ none) : s.putNote l text = refuse s .full := by
  rw [putNote, if_neg (within_noteBytes hlo hhi), if_pos (Option.isSome_iff_ne_none.mpr h)]

theorem putNote_of_empty (hlo : 1 ≤ text.length) (hhi : text.length ≤ 64)
    (h : s.noteTo (otherLink l) = none) :
    s.putNote l text = accept ((s.setNoteTo (otherLink l) (some text)).notifyLink (otherLink l)
      (.noteWaiting text.length s.dock.siteTime)) := by
  rw [putNote, if_neg (within_noteBytes hlo hhi), if_neg (by simp [h])]

theorem putNote_modLink (l' : Link) (f : LinkEnd → LinkEnd) :
    (s.modLink l' f).putNote l text = ((s.putNote l text).1.modLink l' f, (s.putNote l text).2) := by
  simp only [putNote, noteTo_modLink, setNoteTo_modLink, notifyLink_modLink, modLink_dock]
  split
  · rfl
  · split <;> rfl

/-! ### TAKE_NOTE (R174) -/

theorem takeNote_of_empty (h : s.noteTo l = none) : s.takeNote l = accept s [0] := by
  simp only [takeNote, h]

theorem takeNote_of_note (h : s.noteTo l = some text) :
    s.takeNote l = accept ((s.setNoteTo l none).notifyLink (otherLink l)
      (.noteTaken text.length s.dock.siteTime)) (byteOf text.length :: text) := by
  simp only [takeNote, h]

theorem takeNote_modLink (l' : Link) (f : LinkEnd → LinkEnd) :
    (s.modLink l' f).takeNote l = ((s.takeNote l).1.modLink l' f, (s.takeNote l).2) := by
  cases h : s.noteTo l with
  | none => rw [takeNote_of_empty h, takeNote_of_empty (by simpa using h)]; rfl
  | some text =>
    rw [takeNote_of_note h, takeNote_of_note (text := text) (by simpa using h), setNoteTo_modLink,
      notifyLink_modLink, modLink_dock]
    rfl

end Notes

end State

/-! ### The two commands -/

section NoteCommands

variable {s : State} {l : Link} {text : List Byte}

theorem exec_putNote_of_ready (tag : Byte) (h : Ready s l (.putNote text)) :
    exec (.putNote l tag text) s =
      .next ((s.putNote l text).1.answered l tag (.putNote text) (s.putNote l text).2) :=
  State.request_of_frame tag h (State.putNote_modLink l)

theorem exec_takeNote_of_ready (tag : Byte) (h : Ready s l .takeNote) :
    exec (.takeNote l tag) s = .next ((s.takeNote l).1.answered l tag .takeNote (s.takeNote l).2) :=
  State.request_of_frame tag h (State.takeNote_modLink l)

end NoteCommands

/-! ### The obligation -/

/-- Settles O51: both notices are of the group HOLD, and each clause on a request is the case of PUT_NOTE or
TAKE_NOTE that its premises choose, answered on the request's link. -/
theorem noteRequests : Obligations.NoteRequests := by
  refine ⟨fun k l n hn => ?_, fun s l tag text => ⟨rfl, rfl, ?_, ?_, ?_, ?_, ?_⟩⟩
  · have hgroup : n.group = .hold := by rcases hn with ⟨len, time, rfl | rfl⟩ <;> rfl
    rw [← hgroup]
    exact ⟨Dock.noticeEnd_notifyLink_of_subscribed, Dock.notifyLink_of_not_subscribed⟩
  · intro hready hlength
    rw [exec_putNote_of_ready tag hready, State.putNote_of_bad_length hlength]
    rfl
  · intro hready hlo hhi hempty
    rw [exec_putNote_of_ready tag hready, State.putNote_of_empty hlo hhi hempty]
    rfl
  · intro hready hlo hhi hfull
    rw [exec_putNote_of_ready tag hready, State.putNote_of_full hlo hhi hfull]
    rfl
  · intro hready hnote
    rw [exec_takeNote_of_ready tag hready, State.takeNote_of_note hnote]
    rfl
  · intro hready hempty
    rw [exec_takeNote_of_ready tag hready, State.takeNote_of_empty hempty]
    rfl

end Sys2Proof.Machine

/-! PROOFS. Subscription sets (R205): a link's own notice end and the other link's after a write, the two cases
of SET_NOTICES, and the statement SetNoticesWritesGroups. -/

namespace Sys2Proof.Machine

/-! ### A write to one link's notice end -/

section WriteNoticeEnd

variable {k : Dock}

@[simp] theorem Dock.noticeEnd_modNoticeEnd_same (l : Link) (f : NoticeEnd → NoticeEnd) :
    (k.modNoticeEnd l f).noticeEnd l = f (k.noticeEnd l) := by cases l <;> rfl

@[simp] theorem Dock.noticeEnd_modNoticeEnd_other (l : Link) (f : NoticeEnd → NoticeEnd) :
    (k.modNoticeEnd l f).noticeEnd (otherLink l) = k.noticeEnd (otherLink l) := by cases l <;> rfl

end WriteNoticeEnd

/-! ### SET_NOTICES (R205) -/

section SetNotices

variable {s : State} {l : Link} {groups : Byte}

/-- R205: checks 3 to 5 of R201 leave SET_NOTICES to either link at any time. -/
theorem ready_setNotices (hlive : s.inReset = false) (hplace : (s.linkEnd l).places.length < 2) :
    Ready s l (.setNotices groups) :=
  ⟨hlive, hplace, rfl, Or.inr rfl, Or.inr rfl, rfl⟩

theorem Dock.setNotices_of_groups (k : Dock) (l : Link) (h : groups.toNat < 128) :
    k.setNotices l groups =
      accept (k.modNoticeEnd l ({ · with groups := groups.extractLsb' 0 7 })) [groups] :=
  if_neg (Nat.not_le.mpr h)

theorem Dock.setNotices_of_other_bit (k : Dock) (l : Link) (h : 128 ≤ groups.toNat) :
    k.setNotices l groups = refuse k .badArg :=
  if_pos h

theorem exec_setNotices_of_ready (tag : Byte) (h : Ready s l (.setNotices groups)) :
    exec (.setNotices l tag groups) s =
      .next ((s.on (s.dock.setNotices l groups).1).answered l tag (.setNotices groups)
        (s.dock.setNotices l groups).2) :=
  State.request_of_ready tag h (f := (·.setNotices l groups)) (fun _ => rfl)

end SetNotices

/-! ### The obligation -/

/-- Settles O7: the link's end after the write subscribes to exactly the groups of the set, which decides what
a notice does there; the two replies are the two cases of SET_NOTICES. -/
theorem setNoticesWritesGroups : Obligations.SetNoticesWritesGroups := by
  refine ⟨fun s l groups => ready_setNotices, fun k l g => ?_, fun s l tag groups hready => ⟨?_, ?_⟩⟩
  · intro k'
    have hend : k'.noticeEnd l = { k.noticeEnd l with groups := g } :=
      Dock.noticeEnd_modNoticeEnd_same l _
    have hsubscribed (n : Notice) : (k'.noticeEnd l).subscribed n.group = g.getLsbD n.group.bit := by
      rw [hend]; rfl
    refine ⟨by rw [hend], by rw [hend], Dock.noticeEnd_modNoticeEnd_other l _, hsubscribed, fun n hn => ?_,
      fun n hn => ?_⟩
    · exact Dock.notifyLink_of_not_subscribed ((hsubscribed n).trans hn)
    · exact Dock.noticeEnd_notifyLink_of_subscribed ((hsubscribed n).trans hn)
  · intro hgroups
    rw [exec_setNotices_of_ready tag hready, Dock.setNotices_of_groups _ l hgroups]
    rfl
  · intro hother
    rw [exec_setNotices_of_ready tag hready, Dock.setNotices_of_other_bit _ l hother]
    rfl

end Sys2Proof.Machine


/-! PROOFS. What every operation on the dock's records keeps: the alarm list's order, the effective levels, the
move gates, the pallet table's order and the bounds of the notice queues. The relation `Dock.Keeps` says that all
five pass from one dock to another; each operation of the model has one lemma, in the order of the definitions. -/

namespace Sys2Proof.Machine

/-- Whatever invariants of the dock hold in `k` hold in `k'`. -/
structure Dock.Keeps (k k' : Dock) : Prop where
  alarms : AlarmsOk k → AlarmsOk k'
  channels : ChannelsOk k → ChannelsOk k'
  gates : GatesOk k → GatesOk k'
  pallets : PalletsOk k → PalletsOk k'
  queues : QueuesOk k → QueuesOk k'

/-- The fields of which the invariants speak. -/
def Dock.guarded (k : Dock) :=
  (k.alarms, k.overflow, k.mask, k.alarmLine, k.channels, k.plantStop, k.defrosts, k.pallets,
    k.siteNotices, k.floorNotices)

section Congruence

variable {k k' : Dock}

/-- The alarm invariant reads four fields. -/
theorem AlarmsOk.congr (h : AlarmsOk k) (ha : k'.alarms = k.alarms) (ho : k'.overflow = k.overflow)
    (hm : k'.mask = k.mask) (hl : k'.alarmLine = k.alarmLine) : AlarmsOk k' where
  room := by rw [ha]; exact h.room
  single := by rw [ha]; exact h.single
  ordinary := by rw [ha]; exact h.ordinary
  reserved := by rw [ho]; exact h.reserved
  line := by rw [ha, ho, hm, hl]; exact h.line

theorem ChannelsOk.congr (h : ChannelsOk k) (hc : k'.channels = k.channels)
    (hp : k'.plantStop = k.plantStop) : ChannelsOk k' := by
  intro c; rw [hc, hp]; exact h c

theorem GatesOk.congr (h : GatesOk k) (hd : k'.defrosts = k.defrosts) : GatesOk k' := by
  intro z; rw [hd]; exact h z

theorem PalletsOk.congr (h : PalletsOk k) (hp : k'.pallets = k.pallets) : PalletsOk k' where
  rising := by rw [hp]; exact h.rising
  within := by rw [hp]; exact h.within
  single := by rw [hp]; exact h.single
  tags := by rw [hp]; exact h.tags
  exposure := by rw [hp]; exact h.exposure
  residue := by rw [hp]; exact h.residue

theorem QueuesOk.congr (h : QueuesOk k) (hs : k'.siteNotices = k.siteNotices)
    (hf : k'.floorNotices = k.floorNotices) : QueuesOk k' := by
  intro l
  cases l with
  | site => rw [Dock.noticeEnd, hs]; exact h .site
  | floor => rw [Dock.noticeEnd, hf]; exact h .floor

end Congruence

/-! ### Notices (R195, R206) -/

/-- R206: a notice offered to a queue of at most 32 leaves at most 32. -/
theorem NoticeEnd.offer_queue_le {e : NoticeEnd} (h : e.queue.length ≤ 32) (n : Notice) :
    (e.offer n).queue.length ≤ 32 := by
  unfold NoticeEnd.offer
  split
  · unfold NoticeEnd.create
    split
    next hroom =>
      have hroom' : e.queue.length < 32 := hroom
      simp only [List.length_append, List.length_singleton]
      omega
    next => exact h
  · exact h

/-- A write to one link's notice end that keeps the bound of its queue. -/
theorem QueuesOk.modNoticeEnd {k : Dock} (h : QueuesOk k) (l : Link) {f : NoticeEnd → NoticeEnd}
    (hf : ∀ e : NoticeEnd, e.queue.length ≤ 32 → (f e).queue.length ≤ 32) : QueuesOk (k.modNoticeEnd l f) := by
  intro l'
  cases l <;> cases l'
  · exact hf _ (h .site)
  · exact h .floor
  · exact h .site
  · exact hf _ (h .floor)

theorem QueuesOk.notifyLink {k : Dock} (h : QueuesOk k) (l : Link) (n : Notice) : QueuesOk (k.notifyLink l n) :=
  h.modNoticeEnd l (f := (·.offer n)) (fun _ he => NoticeEnd.offer_queue_le he n)

theorem QueuesOk.notify {k : Dock} (h : QueuesOk k) (n : Notice) : QueuesOk (k.notify n) :=
  (h.notifyLink .site n).notifyLink .floor n

theorem QueuesOk.alarmNotice {k : Dock} (h : QueuesOk k) (e : AlarmEntry) (ch : AlarmChange)
    (st : Option AlarmState) (l : Option Link) : QueuesOk (k.alarmNotice e ch st l) := by
  unfold Dock.alarmNotice
  split
  · exact h.notify _
  · exact h

/-! ### The alarm list (R148 to R156) -/

theorem AlarmsOk.notifyLink {k : Dock} (h : AlarmsOk k) (l : Link) (n : Notice) : AlarmsOk (k.notifyLink l n) :=
  h.congr (by simp) (by simp) (by simp) (by simp)

theorem AlarmsOk.alarmNotice {k : Dock} (h : AlarmsOk k) (e : AlarmEntry) (ch : AlarmChange)
    (st : Option AlarmState) (l : Option Link) : AlarmsOk (k.alarmNotice e ch st l) :=
  h.congr (by simp) (by simp) (by simp) (by simp)

theorem AlarmEntry.matches_iff {e : AlarmEntry} {a : AlarmKind} {subj : Subject} :
    e.matches a subj = true ↔ e.kind = a ∧ e.subject = subj := by
  simp [AlarmEntry.matches]

/-- What the ordinary entries owe to R148. -/
structure EntriesOk (entries : List AlarmEntry) : Prop where
  room : entries.length ≤ 47
  single : (entries.map (fun e => (e.kind, e.subject))).Nodup
  ordinary : ∀ e ∈ entries, e.kind ≠ .listOverflow

theorem AlarmsOk.entries {k : Dock} (h : AlarmsOk k) : EntriesOk k.alarms := ⟨h.room, h.single, h.ordinary⟩

/-- The list invariant together with a line that has just been evaluated. -/
theorem AlarmsOk.of_evalLine {k : Dock} (h : EntriesOk k.alarms)
    (hr : ∀ e, k.overflow = some e → e.kind = .listOverflow ∧ e.subject = .site) : AlarmsOk k.evalLine :=
  ⟨h.room, h.single, h.ordinary, hr, rfl⟩

/-- Entries whose kinds and subjects stay may change otherwise. -/
theorem EntriesOk.map {entries : List AlarmEntry} (h : EntriesOk entries) {f : AlarmEntry → AlarmEntry}
    (hf : ∀ e, (f e).kind = e.kind ∧ (f e).subject = e.subject) : EntriesOk (entries.map f) where
  room := by simpa using h.room
  single := by
    have hsame : ((fun e : AlarmEntry => (e.kind, e.subject)) ∘ f) = fun e => (e.kind, e.subject) := by
      funext e; simp [hf e]
    rw [List.map_map, hsame]; exact h.single
  ordinary := by
    intro e he
    obtain ⟨x, hx, rfl⟩ := List.mem_map.mp he
    rw [(hf x).1]; exact h.ordinary x hx

theorem EntriesOk.filter {entries : List AlarmEntry} (h : EntriesOk entries) (p : AlarmEntry → Bool) :
    EntriesOk (entries.filter p) where
  room := (List.length_filter_le _ _).trans h.room
  single := h.single.sublist (List.filter_sublist.map _)
  ordinary := fun e he => h.ordinary e (List.mem_of_mem_filter he)

/-- R148: a new kind and subject joins a list with room. -/
theorem EntriesOk.append {entries : List AlarmEntry} (h : EntriesOk entries) {a : AlarmKind} {subj : Subject}
    (hroom : entries.length < 47) (hnew : entries.find? (·.matches a subj) = none) (ha : a ≠ .listOverflow)
    {e : AlarmEntry} (hkind : e.kind = a) (hsubject : e.subject = subj) : EntriesOk (entries ++ [e]) where
  room := by simpa using hroom
  single := by
    rw [List.map_append, List.map_singleton]
    refine h.single.append (List.nodup_singleton _) ?_
    intro x hx hx'
    obtain ⟨y, hy, rfl⟩ := List.mem_map.mp hx
    have hsame := List.mem_singleton.mp hx'
    have hmatch : y.matches a subj = true := by
      rw [AlarmEntry.matches_iff, ← hkind, ← hsubject]; simpa using hsame
    exact List.find?_eq_none.mp hnew y hy hmatch
  ordinary := by
    intro x hx
    rcases List.mem_append.mp hx with hx | hx
    · exact h.ordinary x hx
    · rw [List.mem_singleton.mp hx, hkind]; exact ha

theorem EntriesOk.putEntry {k : Dock} (h : EntriesOk k.alarms) (e : AlarmEntry) :
    EntriesOk (k.putEntry e).alarms := by
  refine h.map (fun x => ?_)
  split
  next hx =>
    obtain ⟨hkind, hsubject⟩ := AlarmEntry.matches_iff.mp hx
    exact ⟨hkind.symm, hsubject.symm⟩
  next => exact ⟨rfl, rfl⟩

namespace AlarmsOk

variable {k : Dock}

/-- R150, R154, R155: an entry rewritten and the line evaluated. -/
theorem putEntry (h : AlarmsOk k) (e : AlarmEntry) : AlarmsOk (k.putEntry e).evalLine :=
  of_evalLine (h.entries.putEntry e) h.reserved

/-- R148: an entry removed and the line evaluated. -/
theorem dropEntry (h : AlarmsOk k) (e : AlarmEntry) : AlarmsOk (k.dropEntry e).evalLine :=
  of_evalLine (h.entries.filter _) h.reserved

/-- R152, R153: the reserved entry written and the line evaluated. -/
theorem setOverflow (h : AlarmsOk k) {e : Option AlarmEntry}
    (he : ∀ x, e = some x → x.kind = .listOverflow ∧ x.subject = .site) :
    AlarmsOk ({ k with overflow := e } : Dock).evalLine :=
  of_evalLine h.entries he

theorem raiseOverflow (h : AlarmsOk k) : AlarmsOk k.raiseOverflow := by
  refine (h.setOverflow (fun x hx => ?_)).alarmNotice _ _ _ _
  obtain rfl := Option.some.inj hx
  split
  next => exact ⟨rfl, rfl⟩
  next e he => exact h.reserved e he

theorem clearOverflow (h : AlarmsOk k) : AlarmsOk k.clearOverflow := by
  unfold Dock.clearOverflow
  split
  · exact h
  next e he =>
    split
    · refine (h.setOverflow (fun x hx => ?_)).alarmNotice _ _ _ _
      obtain rfl := Option.some.inj hx
      exact h.reserved e he
    · exact (h.setOverflow (by simp)).alarmNotice _ _ _ _
    · exact h

theorem raise (h : AlarmsOk k) {a : AlarmKind} (ha : a ≠ .listOverflow) (subj : Subject) :
    AlarmsOk (k.raise a subj) := by
  simp only [Dock.raise]
  split
  · exact (h.putEntry _).alarmNotice _ _ _ _
  next hnone =>
    split
    next hroom =>
      exact (of_evalLine (k := { k with alarms := _ }) (h.entries.append hroom hnone ha rfl rfl)
        h.reserved).alarmNotice _ _ _ _
    next => exact h.raiseOverflow

theorem clearCondition (h : AlarmsOk k) (a : AlarmKind) (subj : Subject) :
    AlarmsOk (k.clearCondition a subj) := by
  simp only [Dock.clearCondition]
  split
  · exact h
  · split
    · exact (h.putEntry _).alarmNotice _ _ _ _
    · exact ((h.dropEntry _).alarmNotice _ _ _ _).clearOverflow
    · exact h

theorem ackEntry (h : AlarmsOk k) (l : Link) (e : AlarmEntry) : AlarmsOk (k.ackEntry l e) := by
  simp only [Dock.ackEntry]
  split
  · exact (h.putEntry _).alarmNotice _ _ _ _
  · exact h
  · exact ((h.dropEntry _).alarmNotice _ _ _ _).clearOverflow

theorem ackOverflow (h : AlarmsOk k) (l : Link) : AlarmsOk (k.ackOverflow l) := by
  simp only [Dock.ackOverflow]
  split
  · exact h
  next e he =>
    split
    · refine (h.setOverflow (fun x hx => ?_)).alarmNotice _ _ _ _
      obtain rfl := Option.some.inj hx
      exact h.reserved e he
    · exact h
    · exact (h.setOverflow (by simp)).alarmNotice _ _ _ _

end AlarmsOk

namespace QueuesOk

variable {k : Dock}

theorem raiseOverflow (h : QueuesOk k) : QueuesOk k.raiseOverflow := by
  simp only [Dock.raiseOverflow]
  exact alarmNotice (k := ({ k with overflow := _ } : Dock).evalLine) h _ _ _ _

theorem clearOverflow (h : QueuesOk k) : QueuesOk k.clearOverflow := by
  unfold Dock.clearOverflow
  split
  · exact h
  · split
    · exact alarmNotice (k := ({ k with overflow := _ } : Dock).evalLine) h _ _ _ _
    · exact alarmNotice (k := ({ k with overflow := _ } : Dock).evalLine) h _ _ _ _
    · exact h

theorem raise (h : QueuesOk k) (a : AlarmKind) (subj : Subject) : QueuesOk (k.raise a subj) := by
  simp only [Dock.raise]
  split
  · exact alarmNotice (k := (k.putEntry _).evalLine) h _ _ _ _
  · split
    · exact alarmNotice (k := ({ k with alarms := _ } : Dock).evalLine) h _ _ _ _
    · exact h.raiseOverflow

theorem clearCondition (h : QueuesOk k) (a : AlarmKind) (subj : Subject) :
    QueuesOk (k.clearCondition a subj) := by
  simp only [Dock.clearCondition]
  split
  · exact h
  · split
    · exact alarmNotice (k := (k.putEntry _).evalLine) h _ _ _ _
    · exact (alarmNotice (k := (k.dropEntry _).evalLine) h _ _ _ _).clearOverflow
    · exact h

theorem ackEntry (h : QueuesOk k) (l : Link) (e : AlarmEntry) : QueuesOk (k.ackEntry l e) := by
  simp only [Dock.ackEntry]
  split
  · exact alarmNotice (k := (k.putEntry _).evalLine) h _ _ _ _
  · exact h
  · exact (alarmNotice (k := (k.dropEntry _).evalLine) h _ _ _ _).clearOverflow

theorem ackOverflow (h : QueuesOk k) (l : Link) : QueuesOk (k.ackOverflow l) := by
  simp only [Dock.ackOverflow]
  split
  · exact h
  · split
    · exact alarmNotice (k := ({ k with overflow := _ } : Dock).evalLine) h _ _ _ _
    · exact h
    · exact alarmNotice (k := ({ k with overflow := _ } : Dock).evalLine) h _ _ _ _

end QueuesOk

/-! ### Effective levels (R135) -/

section Channels

variable {k : Dock} {c : Fin 48}

/-- A channel's level is the one that its latch, its armed flag and the plant-stop state give. -/
def LevelOk (k : Dock) (c : Fin 48) : Prop :=
  (k.channels[c]).effective =
    effectiveLevel (channelKind c) (k.channels[c]).latch (k.channels[c]).armed k.plantStop

/-- A property that neither a write of the check nor a clearing disturbs passes through the feedback check. -/
theorem compareChannel_invariant {P : Dock → Prop}
    (hwrite : ∀ (k : Dock) (x : Check), P k → P (k.modChannel c ({ · with check := x })))
    (hclear : ∀ (k : Dock) (a : AlarmKind) (subj : Subject), P k → P (k.clearCondition a subj))
    (h : P k) (w : Bool) : P (k.compareChannel c w) := by
  simp only [Dock.compareChannel]
  split
  · exact h
  · split
    · exact h
    · split
      · split
        · exact hclear _ _ _ (hwrite _ _ h)
        · exact hwrite _ _ h
      · split
        · exact hwrite _ _ h
        · split
          · exact h
          · exact hwrite _ _ h
        · split
          · exact h
          · exact hwrite _ _ (hclear _ _ _ h)
        · exact h

/-- A property that neither a write of the channel nor a clearing disturbs passes through a recomputation. -/
theorem recompute_invariant {P : Dock → Prop}
    (hwrite : ∀ (k : Dock) (f : Channel → Channel), P k → P (k.modChannel c f))
    (hclear : ∀ (k : Dock) (a : AlarmKind) (subj : Subject), P k → P (k.clearCondition a subj))
    (h : P k) : P (k.recompute c) := by
  simp only [Dock.recompute]
  split
  · exact h
  · exact compareChannel_invariant (fun k _ => hwrite k _) hclear (hwrite _ _ h) false

/-- A channel with its check set aside. -/
def Channel.unchecked (ch : Channel) : Channel := { ch with check := .agree }

/-- The feedback check writes nothing but the check itself. -/
theorem Dock.compareChannel_unchecked (k : Dock) (c : Fin 48) (w : Bool) (j : Fin 48) :
    ((k.compareChannel c w).channels[j]).unchecked = (k.channels[j]).unchecked := by
  refine compareChannel_invariant (P := fun k' => (k'.channels[j]).unchecked = (k.channels[j]).unchecked)
    (fun k' x h => ?_) (fun k' a subj h => ?_) rfl w
  · rw [Dock.modChannel_channels, tmod_get]
    split
    next hcj => subst hcj; exact h
    next => exact h
  · simpa using h

theorem LevelOk.compareChannel {j : Fin 48} (h : LevelOk k j) (c : Fin 48) (w : Bool) :
    LevelOk (k.compareChannel c w) j := by
  have hsame := Dock.compareChannel_unchecked k c w j
  have hlatch := congrArg Channel.latch hsame
  have harmed := congrArg Channel.armed hsame
  have heff := congrArg Channel.effective hsame
  simp only [Channel.unchecked] at hlatch harmed heff
  have hstop : (k.compareChannel c w).plantStop = k.plantStop := by simp
  rw [LevelOk, hlatch, harmed, heff, hstop]; exact h

/-- R135: recomputing a channel puts its level right. -/
theorem levelOk_recompute_same (k : Dock) (c : Fin 48) : LevelOk (k.recompute c) c := by
  simp only [Dock.recompute]
  split
  next heq => exact heq.symm
  next => exact LevelOk.compareChannel (by simp [LevelOk]) c false

/-- R135: recomputing a channel leaves the others' levels right. -/
theorem LevelOk.recompute {j : Fin 48} (h : LevelOk k j) (c : Fin 48) : LevelOk (k.recompute c) j := by
  by_cases hcj : c = j
  · subst hcj; exact levelOk_recompute_same k c
  · simp only [Dock.recompute]
    split
    · exact h
    · exact LevelOk.compareChannel (by simpa [LevelOk, tmod_ne _ _ hcj] using h) c false

/-- R136, R137: a channel written in any way and then recomputed. -/
theorem ChannelsOk.modChannel_recompute (h : ChannelsOk k) (c : Fin 48) (f : Channel → Channel) :
    ChannelsOk ((k.modChannel c f).recompute c) := by
  intro j
  by_cases hcj : c = j
  · subst hcj; exact levelOk_recompute_same _ c
  · refine LevelOk.recompute ?_ c
    simpa [LevelOk, tmod_ne _ _ hcj] using h j

theorem levelOk_foldl_recompute {cs : List (Fin 48)} {j : Fin 48} (hj : j ∈ cs) (k : Dock) :
    LevelOk (cs.foldl (fun k c => k.recompute c) k) j := by
  induction cs generalizing k with
  | nil => simp at hj
  | cons c cs ih =>
    rw [List.foldl_cons]
    by_cases hmem : j ∈ cs
    · exact ih hmem _
    · obtain rfl : j = c := by simpa [hmem] using hj
      exact foldl_invariant (LevelOk · j) _ (fun k c h => LevelOk.recompute h c) cs _
        (levelOk_recompute_same k j)

/-- R143, R144: after a write of the plant-stop state every level is right, whatever it was before. -/
theorem channelsOk_setPlantStop (k : Dock) (b : Bool) : ChannelsOk (k.setPlantStop b) :=
  fun c => levelOk_foldl_recompute (List.mem_finRange c) _

theorem AlarmsOk.modChannel (h : AlarmsOk k) (c : Fin 48) (f : Channel → Channel) :
    AlarmsOk (k.modChannel c f) := h.congr rfl rfl rfl rfl

theorem AlarmsOk.recompute (h : AlarmsOk k) (c : Fin 48) : AlarmsOk (k.recompute c) :=
  recompute_invariant (fun _ f h => h.modChannel c f) (fun _ a subj h => h.clearCondition a subj) h

theorem QueuesOk.recompute (h : QueuesOk k) (c : Fin 48) : QueuesOk (k.recompute c) :=
  recompute_invariant (fun _ _ h => h) (fun _ a subj h => h.clearCondition a subj) h

end Channels

/-! ### The pallet table (R23, R24, R31) -/

section Pallets

variable {k : Dock}

/-- The records stay in their slots under their tags, and each changes within the bounds. -/
theorem PalletsOk.modPallet (h : PalletsOk k) (slot : Nat) {f : Pallet → Pallet}
    (hf : ∀ p, (slot, p) ∈ k.pallets → (f p).tag = p.tag ∧ (f p).exposure ≤ 65535 ∧ (f p).residue < 960) :
    PalletsOk (k.modPallet slot f) := by
  have hslots : (k.modPallet slot f).pallets.map (·.1) = k.pallets.map (·.1) := by
    simp only [Dock.modPallet, List.map_map]
    refine List.map_congr_left (fun e _ => ?_)
    simp only [Function.comp]; split <;> rfl
  have htags : (k.modPallet slot f).pallets.map (·.2.tag) = k.pallets.map (·.2.tag) := by
    simp only [Dock.modPallet, List.map_map]
    refine List.map_congr_left (fun e he => ?_)
    simp only [Function.comp]
    split
    next hslot => exact (hf e.2 (by rw [← hslot]; exact he)).1
    next => rfl
  have hold : ∀ e ∈ (k.modPallet slot f).pallets, e.2.exposure ≤ 65535 ∧ e.2.residue < 960 := by
    intro e he
    obtain ⟨x, hx, rfl⟩ := List.mem_map.mp he
    split
    next hslot => exact (hf x.2 (by rw [← hslot]; exact hx)).2
    next => exact ⟨h.exposure x hx, h.residue x hx⟩
  have hin : ∀ e ∈ (k.modPallet slot f).pallets, e.1 ∈ k.pallets.map (·.1) ∧ e.2.tag ∈ k.pallets.map (·.2.tag) :=
    fun e he => ⟨hslots ▸ List.mem_map_of_mem he, htags ▸ List.mem_map_of_mem (f := fun e => e.2.tag) he⟩
  exact {
    rising := hslots ▸ h.rising
    within := fun e he => by
      obtain ⟨x, hx, hxe⟩ := List.mem_map.mp (hin e he).1
      exact hxe ▸ h.within x hx
    single := htags ▸ h.single
    tags := fun e he => by
      obtain ⟨x, hx, hxe⟩ := List.mem_map.mp (hin e he).2
      exact hxe ▸ h.tags x hx
    exposure := fun e he => (hold e he).1
    residue := fun e he => (hold e he).2 }

/-- A change that touches neither tag nor exposure nor residue. -/
theorem PalletsOk.modPallet_of_same (h : PalletsOk k) (slot : Nat) {f : Pallet → Pallet}
    (hf : ∀ p, (f p).tag = p.tag ∧ (f p).exposure = p.exposure ∧ (f p).residue = p.residue) :
    PalletsOk (k.modPallet slot f) :=
  h.modPallet slot (fun p hp => by
    obtain ⟨htag, hexposure, hresidue⟩ := hf p
    exact ⟨htag, hexposure ▸ h.exposure _ hp, hresidue ▸ h.residue _ hp⟩)

theorem PalletsOk.emptySlot (h : PalletsOk k) (slot : Nat) : PalletsOk (k.emptySlot slot) where
  rising := h.rising.sublist (List.filter_sublist.map _)
  within := fun e he => h.within e (List.mem_of_mem_filter he)
  single := h.single.sublist (List.filter_sublist.map _)
  tags := fun e he => h.tags e (List.mem_of_mem_filter he)
  exposure := fun e he => h.exposure e (List.mem_of_mem_filter he)
  residue := fun e he => h.residue e (List.mem_of_mem_filter he)

/-- Slots that rise do not repeat. -/
theorem PalletsOk.slots_nodup (h : PalletsOk k) : (k.pallets.map (·.1)).Nodup :=
  h.rising.imp (fun hlt => Nat.ne_of_lt hlt)

/-- The record found in a slot is the one that stands in the table there. -/
theorem palletAt_mem {slot : Nat} {p : Pallet} (h : k.palletAt slot = some p) : (slot, p) ∈ k.pallets := by
  obtain ⟨e, he, rfl⟩ := Option.map_eq_some_iff.mp h
  have hslot : e.1 = slot := by simpa using List.find?_some he
  subst hslot
  exact List.mem_of_find?_eq_some he

/-- On a table in order the record that stands in a slot is the one found there. -/
theorem PalletsOk.palletAt_of_mem (h : PalletsOk k) {slot : Nat} {p : Pallet} (hp : (slot, p) ∈ k.pallets) :
    k.palletAt slot = some p := by
  have hfind : k.pallets.find? (fun e => decide (e.1 = slot)) = some (slot, p) := by
    have hsome : (k.pallets.find? (fun e => decide (e.1 = slot))).isSome :=
      List.find?_isSome.mpr ⟨_, hp, by simp⟩
    obtain ⟨e, he⟩ := Option.isSome_iff_exists.mp hsome
    have hslot : e.1 = slot := by simpa using List.find?_some he
    rw [he, List.inj_on_of_nodup_map h.slots_nodup (List.mem_of_find?_eq_some he) hp hslot]
  simp [Dock.palletAt, hfind]

/-- R31: an accrual keeps the tag and the bounds. -/
theorem accrueRecord_bounds (src : Option Source) (c : PalletClass) (now : Nat) (p : Pallet) :
    (accrueRecord src c now p).tag = p.tag ∧ (accrueRecord src c now p).exposure ≤ 65535 ∧
    (accrueRecord src c now p).residue < 960 := by
  by_cases hfits : p.exposure + unitsDue src c now p / 960 ≤ 65535
  · rw [accrueRecord_of_fits hfits]; exact ⟨rfl, hfits, Nat.mod_lt _ (by decide)⟩
  · rw [accrueRecord_of_saturates (Nat.not_le.mp hfits)]; exact ⟨rfl, le_rfl, Nat.zero_lt_succ 959⟩

/-- R31: a slot's record replaced by its accrual. -/
theorem PalletsOk.accrued (h : PalletsOk k) {slot : Nat} {p : Pallet} (hp : k.palletAt slot = some p)
    (src : Option Source) (c : PalletClass) (now : Nat) :
    PalletsOk (k.modPallet slot (fun _ => accrueRecord src c now p)) :=
  h.modPallet slot (fun q hq => by
    have hqp : q = p := Option.some.inj ((h.palletAt_of_mem hq).symm.trans hp)
    obtain ⟨htag, hexposure, hresidue⟩ := accrueRecord_bounds src c now p
    exact ⟨by rw [htag, hqp], hexposure, hresidue⟩)

end Pallets

end Sys2Proof.Machine

namespace Sys2Proof.Machine

/-! ### The relation, operation by operation -/

namespace Dock
namespace Keeps

variable {k₀ k : Dock}

theorem refl : Keeps k k := ⟨id, id, id, id, id⟩

theorem trans {k' : Dock} (h : Keeps k₀ k) (h' : Keeps k k') : Keeps k₀ k' :=
  ⟨h'.alarms ∘ h.alarms, h'.channels ∘ h.channels, h'.gates ∘ h.gates, h'.pallets ∘ h.pallets,
    h'.queues ∘ h.queues⟩

/-- Writes of fields of which no invariant speaks. -/
theorem of_guarded {k' : Dock} (h : Keeps k₀ k) (hsame : k'.guarded = k.guarded) : Keeps k₀ k' := by
  simp only [guarded, Prod.mk.injEq] at hsame
  obtain ⟨ha, ho, hm, hl, hc, hp, hd, hpal, hs, hf⟩ := hsame
  exact h.trans ⟨(·.congr ha ho hm hl), (·.congr hc hp), (·.congr hd), (·.congr hpal), (·.congr hs hf)⟩

/-- A fold of operations that each keep the invariants. -/
theorem foldl {α : Type} {f : Dock → α → Dock} (hf : ∀ (k : Dock) (a : α), Keeps k₀ k → Keeps k₀ (f k a))
    (l : List α) (h : Keeps k₀ k) : Keeps k₀ (l.foldl f k) :=
  foldl_invariant (Keeps k₀) f hf l k h

/-! Record writes -/

theorem modZone (h : Keeps k₀ k) (z : Fin 8) (f : Zone → Zone) : Keeps k₀ (k.modZone z f) := h.of_guarded rfl
theorem modProbe (h : Keeps k₀ k) (p : Fin 32) (f : Probe → Probe) : Keeps k₀ (k.modProbe p f) :=
  h.of_guarded rfl
theorem modLane (h : Keeps k₀ k) (l : Fin 24) (f : Lane → Lane) : Keeps k₀ (k.modLane l f) := h.of_guarded rfl
theorem modRing (h : Keeps k₀ k) (r : Fin 20) (f : Ring → Ring) : Keeps k₀ (k.modRing r f) := h.of_guarded rfl
theorem modDoor (h : Keeps k₀ k) (d : Fin 16) (f : Door → Door) : Keeps k₀ (k.modDoor d f) := h.of_guarded rfl
theorem modNode (h : Keeps k₀ k) (n : Fin 48) (f : Node → Node) : Keeps k₀ (k.modNode n f) := h.of_guarded rfl

theorem setClasses (h : Keeps k₀ k) (t : Table PalletClass 8) : Keeps k₀ { k with classes := t } := h.of_guarded rfl
theorem setSlotLimit (h : Keeps k₀ k) (n : Nat) : Keeps k₀ { k with slotLimit := n } := h.of_guarded rfl
theorem setOffset (h : Keeps k₀ k) (w : Word) : Keeps k₀ { k with offset := w } := h.of_guarded rfl
theorem tick (h : Keeps k₀ k) : Keeps k₀ k.tick := h.of_guarded rfl

/-- A defrost table whose gates stand right wherever they stood right. -/
theorem defrosts (h : Keeps k₀ k) {t : Table Defrost 8}
    (ht : GatesOk k → ∀ z : Fin 8, (t[z]).gate = (t[z]).phase.gate) :
    Keeps k₀ { k with defrosts := t } :=
  h.trans ⟨(·.congr rfl rfl rfl rfl), (·.congr rfl rfl), ht, (·.congr rfl), id⟩

/-- R119: a defrost record whose gate stands as its phase gives after the write. -/
theorem modDefrost_of_gate (h : Keeps k₀ k) (z : Fin 8) {f : Defrost → Defrost}
    (hf : ∀ df, df.gate = df.phase.gate → (f df).gate = (f df).phase.gate) : Keeps k₀ (k.modDefrost z f) :=
  h.defrosts (t := tmod k.defrosts z f) (fun hg y => by
    rw [tmod_get]
    split
    next hzy => subst hzy; exact hf _ (hg z)
    next => exact hg y)

/-- A defrost record written in neither phase nor gate. -/
theorem modDefrost (h : Keeps k₀ k) (z : Fin 8) (f : Defrost → Defrost)
    (hf : ∀ df, (f df).phase = df.phase ∧ (f df).gate = df.gate) :
    Keeps k₀ (k.modDefrost z f) :=
  h.modDefrost_of_gate z (fun df hg => by rw [(hf df).1, (hf df).2, hg])

/-- A channel table whose levels stand right wherever they stood right. -/
theorem channelTable (h : Keeps k₀ k) {t : Table Channel 48} (ht : ChannelsOk k → ChannelsOk { k with channels := t }) :
    Keeps k₀ { k with channels := t } :=
  h.trans ⟨(·.congr rfl rfl rfl rfl), ht, (·.congr rfl), (·.congr rfl), id⟩

/-- A channel written in neither latch nor armed flag nor effective level. -/
theorem modChannel (h : Keeps k₀ k) (c : Fin 48) (f : Channel → Channel)
    (hf : ∀ ch, (f ch).latch = ch.latch ∧ (f ch).armed = ch.armed ∧ (f ch).effective = ch.effective) :
    Keeps k₀ (k.modChannel c f) :=
  h.channelTable (t := tmod k.channels c f) (fun hok j => by
    simp only [tmod_get]
    split
    next hcj =>
      subst hcj
      obtain ⟨hlatch, harmed, heff⟩ := hf k.channels[c]
      rw [hlatch, harmed, heff]; exact hok c
    next => exact hok j)

/-- R136, R137: a channel written in any way and then recomputed. -/
theorem modChannel_recompute (h : Keeps k₀ k) (c : Fin 48) (f : Channel → Channel) :
    Keeps k₀ ((k.modChannel c f).recompute c) :=
  h.trans ⟨fun ha => (ha.modChannel c f).recompute c, fun hc => hc.modChannel_recompute c f,
    (·.congr (by simp)), (·.congr (by simp)), fun hq => QueuesOk.recompute (k := k.modChannel c f) hq c⟩

/-! Notices and alarms -/

theorem noticeWrite (h : Keeps k₀ k) (l : Link) (f : NoticeEnd → NoticeEnd)
    (hf : ∀ e : NoticeEnd, e.queue.length ≤ 32 → (f e).queue.length ≤ 32) : Keeps k₀ (k.modNoticeEnd l f) :=
  h.trans ⟨(·.congr (by simp) (by simp) (by simp) (by simp)), (·.congr (by simp) (by simp)), (·.congr (by simp)),
    (·.congr (by simp)), fun hq => hq.modNoticeEnd l hf⟩

theorem notifyLink (h : Keeps k₀ k) (l : Link) (n : Notice) : Keeps k₀ (k.notifyLink l n) :=
  h.noticeWrite l (·.offer n) (fun _ he => NoticeEnd.offer_queue_le he n)

theorem notify (h : Keeps k₀ k) (n : Notice) : Keeps k₀ (k.notify n) :=
  (h.notifyLink .site n).notifyLink .floor n

theorem raise (h : Keeps k₀ k) (a : AlarmKind) (subj : Subject) (ha : a ≠ .listOverflow) :
    Keeps k₀ (k.raise a subj) :=
  h.trans ⟨(·.raise ha subj), (·.congr (by simp) (by simp)), (·.congr (by simp)), (·.congr (by simp)),
    (·.raise a subj)⟩

theorem clearCondition (h : Keeps k₀ k) (a : AlarmKind) (subj : Subject) : Keeps k₀ (k.clearCondition a subj) :=
  h.trans ⟨(·.clearCondition a subj), (·.congr (by simp) (by simp)), (·.congr (by simp)), (·.congr (by simp)),
    (·.clearCondition a subj)⟩

theorem ackEntry (h : Keeps k₀ k) (l : Link) (e : AlarmEntry) : Keeps k₀ (k.ackEntry l e) :=
  h.trans ⟨(·.ackEntry l e), (·.congr (by simp) (by simp)), (·.congr (by simp)), (·.congr (by simp)),
    (·.ackEntry l e)⟩

theorem ackOverflow (h : Keeps k₀ k) (l : Link) : Keeps k₀ (k.ackOverflow l) :=
  h.trans ⟨(·.ackOverflow l), (·.congr (by simp) (by simp)), (·.congr (by simp)), (·.congr (by simp)),
    (·.ackOverflow l)⟩

theorem ackEvery (h : Keeps k₀ k) (l : Link) : Keeps k₀ (k.ackEvery l) :=
  (foldl (fun _ e h => h.ackEntry l e) k.alarms h).ackOverflow l

/-- R158, R159: a mask written and the line evaluated. -/
theorem remask (h : Keeps k₀ k) (t : Table MaskSetting 23) : Keeps k₀ ({ k with mask := t } : Dock).evalLine :=
  h.trans ⟨fun ha => AlarmsOk.of_evalLine (k := { k with mask := t }) ha.entries ha.reserved,
    (·.congr rfl rfl), (·.congr rfl), (·.congr rfl), id⟩

/-! Output channels -/

theorem compareChannel (h : Keeps k₀ k) (c : Fin 48) (w : Bool) : Keeps k₀ (k.compareChannel c w) :=
  compareChannel_invariant (fun _ _ h => h.modChannel c _ (by simp)) (fun _ a subj h => h.clearCondition a subj) h w

theorem command (h : Keeps k₀ k) (c : Fin 48) (lv : Level) : Keeps k₀ (k.command c lv) := by
  unfold Dock.command
  split
  · exact h
  · exact h.modChannel_recompute c _

theorem setByHand (h : Keeps k₀ k) (c : Fin 48) (lv : Level) : Keeps k₀ (k.setByHand c lv) :=
  h.modChannel_recompute c _

theorem returnChannel (h : Keeps k₀ k) (c : Fin 48) : Keeps k₀ (k.returnChannel c) := h.modChannel_recompute c _

theorem returnManual (h : Keeps k₀ k) (c : Fin 48) : Keeps k₀ (k.returnManual c) := by
  unfold Dock.returnManual
  split
  · exact h.returnChannel c
  · exact h

theorem writeFeedback (h : Keeps k₀ k) (c : Fin 48) (fb : Option Level) : Keeps k₀ (k.writeFeedback c fb) :=
  (h.modChannel c _ (by simp)).compareChannel c true

theorem suspendCheck (h : Keeps k₀ k) (c : Fin 48) : Keeps k₀ (k.suspendCheck c) := h.modChannel c _ (by simp)

theorem mismatchExpiry (h : Keeps k₀ k) (c : Fin 48) : Keeps k₀ (k.mismatchExpiry c) := by
  simp only [Dock.mismatchExpiry]
  split
  · split
    · exact (h.modChannel c _ (by simp)).raise _ _ (by unfold RaisedKind.alarm; split <;> decide)
    · exact h
  · exact h

theorem setPlantStop (h : Keeps k₀ k) (b : Bool) : Keeps k₀ (k.setPlantStop b) :=
  h.trans ⟨fun ha => foldl_invariant AlarmsOk _ (fun _ c h => h.recompute c) _ _
      (ha.congr (k' := { k with plantStop := b }) rfl rfl rfl rfl),
    fun _ => channelsOk_setPlantStop k b, (·.congr (by simp)), (·.congr (by simp)),
    fun hq => foldl_invariant QueuesOk _ (fun _ c h => h.recompute c) _ _ hq⟩

/-! Watches -/

theorem warmCompare (h : Keeps k₀ k) (z : Fin 8) : Keeps k₀ (k.warmCompare z) := by
  simp only [Dock.warmCompare]
  split
  · split
    · split
      · exact h
      · exact h.modZone z _
    · exact h
  · split
    · exact h
    · exact h.modZone z _
    · exact (h.modZone z _).clearCondition _ _

theorem coldCompare (h : Keeps k₀ k) (z : Fin 8) : Keeps k₀ (k.coldCompare z) := by
  simp only [Dock.coldCompare]
  split
  · split
    · exact h.modZone z _
    · exact h
  · split
    · exact h
    · exact h.modZone z _
    · exact (h.modZone z _).clearCondition _ _

theorem suspendWarm (h : Keeps k₀ k) (z : Fin 8) : Keeps k₀ (k.suspendWarm z) := by
  unfold Dock.suspendWarm
  split
  · exact h.modZone z _
  · exact h

theorem warmExpiry (h : Keeps k₀ k) (z : Fin 8) : Keeps k₀ (k.warmExpiry z) := by
  unfold Dock.warmExpiry
  split
  · split
    · exact (h.modZone z _).raise _ _ (by decide)
    · exact h
  · exact h

theorem coldExpiry (h : Keeps k₀ k) (z : Fin 8) : Keeps k₀ (k.coldExpiry z) := by
  unfold Dock.coldExpiry
  split
  · split
    · exact (h.modZone z _).raise _ _ (by decide)
    · exact h
  · exact h

/-! Defrost -/

theorem commandPhase (h : Keeps k₀ k) (z : Fin 8) : Keeps k₀ (k.commandPhase z) := (h.command _ _).command _ _

theorem tellMonitor (h : Keeps k₀ k) (z : Fin 8) (old new : Phase) : Keeps k₀ (k.tellMonitor z old new) := by
  unfold Dock.tellMonitor
  split
  · exact h.suspendWarm z
  · split
    · exact h.warmCompare z
    · exact h

theorem enterPhase (h : Keeps k₀ k) (z : Fin 8) (ph : Phase) : Keeps k₀ (k.enterPhase z ph) :=
  (((h.modDefrost_of_gate z (fun _ _ => rfl)).commandPhase z).notify _).tellMonitor z _ ph

theorem clearTest (h : Keeps k₀ k) (z : Fin 8) : Keeps k₀ (k.clearTest z) := by
  unfold Dock.clearTest
  split
  · exact ((h.modDefrost z _ (by simp)).enterPhase z _).modDefrost z _ (by simp)
  · exact h

theorem grant (h : Keeps k₀ k) (z : Fin 8) : Keeps k₀ (k.grant z) :=
  (((h.modDefrost z _ (by simp)).enterPhase z _).modDefrost z _ (by simp)).clearTest z

theorem arbiterLoop (n : Nat) (h : Keeps k₀ k) : Keeps k₀ (arbiterLoop n k) := by
  induction n generalizing k with
  | zero => exact h
  | succ n ih =>
    unfold Dock.arbiterLoop
    split
    · split
      · exact h
      · exact ih (h.grant _)
    · exact h

theorem arbiter (h : Keeps k₀ k) : Keeps k₀ k.arbiter := h.arbiterLoop 8

theorem enterDue (h : Keeps k₀ k) (z : Fin 8) : Keeps k₀ (k.enterDue z) := (h.enterPhase z _).arbiter

theorem dueTest (h : Keeps k₀ k) (z : Fin 8) : Keeps k₀ (k.dueTest z) := by
  unfold Dock.dueTest
  split
  · exact h.enterDue z
  · exact h

theorem addFrost (h : Keeps k₀ k) (z : Fin 8) (n : Nat) :
    Keeps k₀ (k.addFrost z n) :=
  (h.modDefrost z _ (by simp)).dueTest z

theorem endDefrost (h : Keeps k₀ k) (z : Fin 8) : Keeps k₀ (k.endDefrost z) :=
  ((h.modDefrost z _ (fun df => by split <;> exact ⟨rfl, rfl⟩)).enterPhase z _).dueTest z

theorem recoveryTest (h : Keeps k₀ k) (z : Fin 8) : Keeps k₀ (k.recoveryTest z) := by
  unfold Dock.recoveryTest
  split
  · exact h.endDefrost z
  · exact h

theorem enterRecovery (h : Keeps k₀ k) (z : Fin 8) : Keeps k₀ (k.enterRecovery z) :=
  ((((h.modDefrost z _ (by simp)).enterPhase z _).modDefrost z _ (by simp)).recoveryTest z).arbiter

theorem enterDripping (h : Keeps k₀ k) (z : Fin 8) : Keeps k₀ (k.enterDripping z) := by
  have hdripping := ((h.modDefrost z ({ · with duration := none }) (by simp)).enterPhase z .dripping).modDefrost z
    ({ · with drip := some k.running }) (by simp)
  simp only [Dock.enterDripping]
  split
  · exact hdripping.enterRecovery z
  · exact hdripping

theorem clearRecoveryLate (h : Keeps k₀ k) (z : Fin 8) : Keeps k₀ (k.clearRecoveryLate z) := by
  unfold Dock.clearRecoveryLate
  split
  · exact h.clearCondition _ _
  · exact h

theorem changeMoves (h : Keeps k₀ k) (z : Fin 8) (f : Nat → Nat) : Keeps k₀ (k.changeMoves z f) :=
  (h.modDefrost z _ (by simp)).clearTest z

theorem changeOpenDoors (h : Keeps k₀ k) (z : Fin 8) (f : Nat → Nat) : Keeps k₀ (k.changeOpenDoors z f) :=
  (h.modDefrost z _ (by simp)).clearTest z

theorem moveBegan (h : Keeps k₀ k) (r : Fin 20) (src dst : Option (Fin 8)) : Keeps k₀ (k.moveBegan r src dst) :=
  foldl (fun _ z h => h.changeMoves z _) _ (h.of_guarded rfl)

theorem moveEnded (h : Keeps k₀ k) (r : Fin 20) : Keeps k₀ (k.moveEnded r) :=
  foldl (fun _ z h => h.changeMoves z _) _ (h.of_guarded rfl)

theorem coilReading (h : Keeps k₀ k) (z : Fin 8) (reading : Option Int) : Keeps k₀ (k.coilReading z reading) := by
  simp only [Dock.coilReading]
  split
  · exact h.modDefrost z _ (by simp)
  · split
    · exact (h.modDefrost z _ (by simp)).enterDripping z
    · exact h.modDefrost z _ (by simp)

theorem abortZone (h : Keeps k₀ k) (z : Fin 8) : Keeps k₀ (k.abortZone z) := by
  unfold Dock.abortZone
  split
  · exact ((h.modDefrost z _ (by simp)).raise _ _ (by decide)).enterDripping z
  · exact h

theorem defrostPlantStop (h : Keeps k₀ k) : Keeps k₀ k.defrostPlantStop := foldl (fun _ z h => h.abortZone z) _ h

theorem defrostPlantRelease (h : Keeps k₀ k) : Keeps k₀ k.defrostPlantRelease :=
  (foldl (fun _ z h => h.clearTest z) _ h).arbiter

theorem intervalExpiry (h : Keeps k₀ k) (z : Fin 8) : Keeps k₀ (k.intervalExpiry z) := by
  simp only [Dock.intervalExpiry]
  split
  · exact (h.modDefrost z _ (by simp)).dueTest z
  · exact h

theorem durationExpiry (h : Keeps k₀ k) (z : Fin 8) : Keeps k₀ (k.durationExpiry z) := by
  unfold Dock.durationExpiry
  split
  · exact (h.raise _ _ (by decide)).enterDripping z
  · exact h

theorem dripExpiry (h : Keeps k₀ k) (z : Fin 8) : Keeps k₀ (k.dripExpiry z) := by
  unfold Dock.dripExpiry
  split
  · exact h.enterRecovery z
  · exact h

theorem recoveryExpiry (h : Keeps k₀ k) (z : Fin 8) : Keeps k₀ (k.recoveryExpiry z) := by
  unfold Dock.recoveryExpiry
  split
  · exact (h.raise _ _ (by decide)).endDefrost z
  · exact h

theorem firstUpdate (h : Keeps k₀ k) (z : Fin 8) : Keeps k₀ (k.firstUpdate z) := by
  unfold Dock.firstUpdate
  split
  · exact ((h.modDefrost z _ (by simp)).commandPhase z).dueTest z
  · exact h

/-! Pallets -/

/-- A write of the pallet table that keeps it in order. -/
theorem palletTable (h : Keeps k₀ k) {t : List (Nat × Pallet)} (ht : PalletsOk k → PalletsOk { k with pallets := t }) :
    Keeps k₀ { k with pallets := t } :=
  h.trans ⟨(·.congr rfl rfl rfl rfl), (·.congr rfl rfl), (·.congr rfl), ht, id⟩

theorem modPallet (h : Keeps k₀ k) (slot : Nat) (f : Pallet → Pallet)
    (hf : ∀ p, (f p).tag = p.tag ∧ (f p).exposure = p.exposure ∧ (f p).residue = p.residue) :
    Keeps k₀ (k.modPallet slot f) :=
  h.palletTable (fun hp => hp.modPallet_of_same slot hf)

theorem emptySlot (h : Keeps k₀ k) (slot : Nat) : Keeps k₀ (k.emptySlot slot) :=
  h.palletTable (fun hp => hp.emptySlot slot)

theorem regrade (h : Keeps k₀ k) (slot : Nat) : Keeps k₀ (k.regrade slot) := by
  simp only [Dock.regrade]
  split
  · exact h
  · split
    · exact h
    · split
      · exact ((h.modPallet slot _ (by simp)).notify _).raise _ _ (by decide)
      · split
        · exact ((h.modPallet slot _ (by simp)).notify _).clearCondition _ _
        · exact (h.modPallet slot _ (by simp)).notify _

theorem accrue (h : Keeps k₀ k) (slot : Nat) : Keeps k₀ (k.accrue slot) := by
  unfold Dock.accrue
  split
  · exact h
  next p hp => exact (h.palletTable (fun hok => hok.accrued hp _ _ _)).regrade slot

theorem accrueSlots (h : Keeps k₀ k) (slots : List Nat) : Keeps k₀ (k.accrueSlots slots) :=
  foldl (fun _ slot h => h.accrue slot) slots h

theorem accrueWhere (h : Keeps k₀ k) (f : Pallet → Bool) : Keeps k₀ (k.accrueWhere f) := h.accrueSlots _

theorem accrueTrailer (h : Keeps k₀ k) (d : Fin 16) : Keeps k₀ (k.accrueTrailer d) := h.accrueWhere _

theorem relocate (h : Keeps k₀ k) (slot : Nat) (loc : Loc) : Keeps k₀ (k.relocate slot loc) :=
  (h.accrue slot).modPallet slot _ (by simp)

theorem relocateSlots (h : Keeps k₀ k) (slots : List Nat) (loc : Loc) : Keeps k₀ (k.relocateSlots slots loc) :=
  foldl (fun _ slot h => h.relocate slot loc) slots h

end Keeps
end Dock
end Sys2Proof.Machine

namespace Sys2Proof.Machine
namespace Dock
namespace Keeps

variable {k₀ k : Dock}

/-- A choice between two docks that both keep the invariants. -/
theorem ite {k' : Dock} (p : Prop) [Decidable p] (h : p → Keeps k₀ k) (h' : ¬ p → Keeps k₀ k') :
    Keeps k₀ (if p then k else k') := by
  split
  next hp => exact h hp
  next hp => exact h' hp

/-! Doors -/

theorem modTimers (h : Keeps k₀ k) (d : Fin 16) (f : DoorTimers → DoorTimers) : Keeps k₀ (k.modTimers d f) :=
  h.modDoor d _

theorem commandDoor (h : Keeps k₀ k) (d : Fin 16) : Keeps k₀ (k.commandDoor d) := by
  simp only [Dock.commandDoor]
  split <;> split
  · exact h
  · exact h.command _ _
  · exact h.command _ _
  · exact (h.command _ _).command _ _

theorem feed (h : Keeps k₀ k) (d : Fin 16) : Keeps k₀ (k.feed d) := by
  simp only [Dock.feed]
  split
  · exact h.modDoor d _
  · exact (h.modDoor d _).addFrost _ _

theorem tellOpenDoors (h : Keeps k₀ k) (d : Fin 16) (f : Nat → Nat) : Keeps k₀ (k.tellOpenDoors d f) := by
  unfold Dock.tellOpenDoors
  split
  · exact h
  · exact h.changeOpenDoors _ f

theorem leaveSet (h : Keeps k₀ k) (d : Fin 16) : Keeps k₀ (k.leaveSet d) :=
  ((h.accrueTrailer d).feed d).tellOpenDoors d _

theorem joinSet (h : Keeps k₀ k) (d : Fin 16) : Keeps k₀ (k.joinSet d) :=
  ((h.accrueTrailer d).modDoor d _).tellOpenDoors d _

theorem enterState (h : Keeps k₀ k) (d : Fin 16) (st : DoorState) : Keeps k₀ (k.enterState d st) :=
  ((h.modDoor d _).commandDoor d).notify _

theorem changeState (h : Keeps k₀ k) (d : Fin 16) (st : DoorState) : Keeps k₀ (k.changeState d st) := by
  simp only [Dock.changeState]
  split
  · exact (h.leaveSet d).enterState d st
  · split
    · exact (h.joinSet d).enterState d st
    · exact h.enterState d st

theorem closeOrFault (h : Keeps k₀ k) (d : Fin 16) : Keeps k₀ (k.closeOrFault d) := by
  unfold Dock.closeOrFault
  split
  · exact h.changeState d _
  · exact h.changeState d _

theorem countRises (h : Keeps k₀ k) (d : Fin 16) : Keeps k₀ (k.countRises d) := h.modDoor d _

theorem countFalls (h : Keeps k₀ k) (d : Fin 16) (exempt : Option (Fin 16)) : Keeps k₀ (k.countFalls d exempt) := by
  simp only [Dock.countFalls]
  split
  · exact (h.modDoor d _).closeOrFault d
  · exact h.modDoor d _

theorem closeFromOpen (h : Keeps k₀ k) (d : Fin 16) : Keeps k₀ (k.closeFromOpen d) :=
  (h.modDoor d _).changeState d _

theorem takeClose (h : Keeps k₀ k) (d : Fin 16) : Keeps k₀ (k.takeClose d) := by
  simp only [Dock.takeClose]
  split
  · exact h.closeFromOpen d
  · split
    · exact (h.modDoor d _).changeState d _
    · split
      · exact h.modDoor d _
      · exact h
  · exact h

theorem deferralExpiry (h : Keeps k₀ k) (z : Fin 8) : Keeps k₀ (k.deferralExpiry z) := by
  have hforced := (h.modDefrost z ({ · with deferral := none, forcing := true }) (by simp)).raise .defrostForced
    (.zone z) (by decide)
  simp only [Dock.deferralExpiry]
  split
  · split
    · exact foldl (fun _ d h => h.takeClose d) _ hforced
    · exact hforced
  · exact h

theorem recloseExpiry (h : Keeps k₀ k) (d : Fin 16) : Keeps k₀ (k.recloseExpiry d) := by
  unfold Dock.recloseExpiry
  split
  · exact (h.modTimers d _).takeClose d
  · exact h

theorem inflateExpiry (h : Keeps k₀ k) (d : Fin 16) : Keeps k₀ (k.inflateExpiry d) := by
  unfold Dock.inflateExpiry
  split
  · exact (h.changeState d _).raise _ _ (by decide)
  · exact h

theorem deflateExpiry (h : Keeps k₀ k) (d : Fin 16) : Keeps k₀ (k.deflateExpiry d) := by
  unfold Dock.deflateExpiry
  split
  · exact h.changeState d _
  · exact h

theorem travelExpiry (h : Keeps k₀ k) (d : Fin 16) : Keeps k₀ (k.travelExpiry d) := by
  unfold Dock.travelExpiry
  split
  · exact (h.raise _ _ (by decide)).changeState d _
  · exact h

theorem leakExpiry (h : Keeps k₀ k) (d : Fin 16) : Keeps k₀ (k.leakExpiry d) := by
  have hlost := ((h.modTimers d ({ · with leakGrace := none })).modDoor d ({ · with sealLost := true })).raise
    .sealLost (.door d) (by decide)
  simp only [Dock.leakExpiry]
  split
  · split
    · exact hlost.changeState d _
    · exact hlost.takeClose d
  · exact h

theorem doorsPlantStop (h : Keeps k₀ k) : Keeps k₀ k.doorsPlantStop := h.of_guarded rfl

theorem doorsPlantRelease (h : Keeps k₀ k) : Keeps k₀ k.doorsPlantRelease := h.of_guarded rfl

theorem doorNodeLost (h : Keeps k₀ k) (d : Fin 16) : Keeps k₀ (k.doorNodeLost d) := by
  have hgrace := h.modTimers d ({ · with leakGrace := none })
  simp only [Dock.doorNodeLost]
  split
  · split
    · exact hgrace.changeState d _
    · exact (hgrace.modDoor d _).changeState d _
  · split
    · exact hgrace.changeState d _
    · exact hgrace
  · exact hgrace
  · exact hgrace
  · exact hgrace
  · exact hgrace.changeState d _

/-! Moves -/

theorem drainIfEmpty (h : Keeps k₀ k) (r : Fin 20) : Keeps k₀ (k.drainIfEmpty r) := by
  unfold Dock.drainIfEmpty
  split
  · exact (h.modRing r _).notify _
  · exact h

theorem advance (h : Keeps k₀ k) (r : Fin 20) (m : Descriptor) : Keeps k₀ (k.advance r m) :=
  (h.modRing r _).drainIfEmpty r

theorem destCounts (h : Keeps k₀ k) (s : Spot) (f g : Nat → Nat) : Keeps k₀ (k.destCounts s f g) := by
  unfold Dock.destCounts
  split
  · exact h.modDoor _ _
  · exact h.modLane _ _
  · exact h

theorem leaveSource (h : Keeps k₀ k) (s : Spot) : Keeps k₀ (k.leaveSource s) := by
  unfold Dock.leaveSource
  split
  · exact h.modLane _ _
  · exact h

theorem doorsRise (h : Keeps k₀ k) (m : Descriptor) : Keeps k₀ (k.doorsRise m) :=
  foldl (fun _ d h => h.countRises d) _ h

theorem doorsFall (h : Keeps k₀ k) (m : Descriptor) (exempt : Option (Fin 16)) : Keeps k₀ (k.doorsFall m exempt) :=
  foldl (fun _ d h => h.countFalls d exempt) _ h

theorem moveOver (h : Keeps k₀ k) (r : Fin 20) (m : Descriptor) (exempt : Option (Fin 16)) :
    Keeps k₀ (k.moveOver r m exempt) :=
  (h.doorsFall m exempt).moveEnded r

theorem roomQuantum (h : Keeps k₀ k) (here other : Option (Fin 8)) : Keeps k₀ (k.roomQuantum here other) := by
  unfold Dock.roomQuantum
  split
  · exact h
  · split
    · exact h.addFrost _ _
    · exact h

theorem endOverdue (h : Keeps k₀ k) (r : Fin 20) (m : Descriptor) : Keeps k₀ (k.endOverdue r m) := by
  unfold Dock.endOverdue
  split
  · exact h.clearCondition _ _
  · exact h

theorem cancelPicked (h : Keeps k₀ k) (r : Fin 20) (m : Descriptor) (exempt : Option (Fin 16)) :
    Keeps k₀ (k.cancelPicked r m exempt) := by
  simp only [Dock.cancelPicked]
  split
  · exact (((h.destCounts _ _ _).moveOver r m exempt).endOverdue r m).advance r _
  · exact ((((h.relocate _ _).destCounts _ _ _).moveOver r m exempt).endOverdue r m).advance r _

theorem cancelThrough (h : Keeps k₀ k) (d : Fin 16) : Keeps k₀ (k.cancelThrough d) := by
  refine foldl (fun k r h => ?_) _ h
  split
  · exact h
  · split
    · exact h.cancelPicked r _ _
    · exact h

theorem failRing (h : Keeps k₀ k) (d : Fin 16) (r : Fin 20) : Keeps k₀ (k.failRing d r) := by
  unfold Dock.failRing
  split
  · exact h
  · exact (h.modRing r _).drainIfEmpty r

theorem failTrailer (h : Keeps k₀ k) (d : Fin 16) : Keeps k₀ (k.failTrailer d) :=
  foldl (fun _ r h => h.failRing d r) _ h

theorem giveVerdict (h : Keeps k₀ k) (t : Fin 24) (v : Verdict) (tag : Word) : Keeps k₀ (k.giveVerdict t v tag) := by
  unfold Dock.giveVerdict
  split
  · exact h.modNode _ _
  · exact h

theorem scanRefused (h : Keeps k₀ k) (t : Fin 24) (scan : ScanKind) (tag : Word) (v : Verdict)
    (ring : Option (Fin 20)) : Keeps k₀ (k.scanRefused t scan tag v ring) :=
  (h.notify _).giveVerdict t v tag

theorem storeRefusal (h : Keeps k₀ k) (r : Fin 20) (v : Verdict) (tag : Word) (t : Fin 24) :
    Keeps k₀ (k.storeRefusal r v tag t) := h.modRing r _

theorem acceptPick (h : Keeps k₀ k) (t : Fin 24) (r : Fin 20) (m : Descriptor) (slot : Nat) :
    Keeps k₀ (k.acceptPick t r m slot) :=
  (((((((h.relocate slot _).leaveSource _).destCounts _ _ _).modRing r _).doorsRise m).moveBegan r _ _
    ).roomQuantum _ _).giveVerdict t _ _

theorem unplanned (h : Keeps k₀ k) (t : Fin 24) (loc : Spot) (tag : Word) : Keeps k₀ (k.unplanned t loc tag) := by
  simp only [Dock.unplanned]
  split
  · exact ((h.modRing _ _).storeRefusal _ _ _ _).raise _ _ (by decide)
  · exact h.raise _ _ (by decide)

theorem pickScan (h : Keeps k₀ k) (t : Fin 24) (loc : Spot) (tag : Word) : Keeps k₀ (k.pickScan t loc tag) := by
  unfold Dock.pickScan
  split
  · split
    · exact h.scanRefused _ _ _ _ _
    · exact (h.scanRefused _ _ _ _ _).unplanned t loc tag
  · split
    · exact (h.storeRefusal _ _ _ _).scanRefused _ _ _ _ _
    · split
      · exact h
      · split
        · exact h.acceptPick t _ _ _
        · exact (h.storeRefusal _ _ _ _).scanRefused _ _ _ _ _
        · exact h

theorem acceptPlace (h : Keeps k₀ k) (t : Fin 24) (r : Fin 20) (m : Descriptor) : Keeps k₀ (k.acceptPlace t r m) := by
  have hmoved : ∀ e : Option (Nat × Pallet), Keeps k₀ (match e with
      | none => k
      | some e => k.relocate e.1 (.at m.dest)) := fun e => by
    cases e with
    | none => exact h
    | some e => exact h.relocate _ _
  have hover := (((((hmoved (k.findTag m.tag)).destCounts m.dest (· + 1) (· - 1)).moveOver r m none).roomQuantum
    (k.spotZone m.dest) (k.spotZone m.source)).endOverdue r m)
  simp only [Dock.acceptPlace]
  split
  · exact ((hover.notify _).advance r _).giveVerdict t _ _
  · exact (hover.advance r _).giveVerdict t _ _

theorem placeScan (h : Keeps k₀ k) (t : Fin 24) (loc : Spot) (tag : Word) : Keeps k₀ (k.placeScan t loc tag) := by
  unfold Dock.placeScan
  split
  · split
    · exact h
    · exact h.acceptPlace t _ _
  · exact h.scanRefused _ _ _ _ _

theorem scan (h : Keeps k₀ k) (t : Fin 24) (kind : ScanKind) (tag : Word) : Keeps k₀ (k.scan t kind tag) := by
  unfold Dock.scan
  split
  · exact h.scanRefused _ _ _ _ _
  · split
    · exact h.pickScan t _ tag
    · exact h.placeScan t _ tag

theorem allowanceExpiry (h : Keeps k₀ k) (r : Fin 20) : Keeps k₀ (k.allowanceExpiry r) := by
  unfold Dock.allowanceExpiry
  split
  · exact h
  · split
    · exact (h.modRing r _).raise _ _ (by decide)
    · exact h

/-! Trailers and door reports -/

theorem removeTrailer (h : Keeps k₀ k) (d : Fin 16) : Keeps k₀ (k.removeTrailer d) := by
  unfold Dock.removeTrailer
  exact (((h.failTrailer d).relocateSlots _ _).modDoor d _).clearCondition _ _

theorem trailerLeft (h : Keeps k₀ k) (d : Fin 16) : Keeps k₀ (k.trailerLeft d) := by
  have hcancelled := h.cancelThrough d
  simp only [Dock.trailerLeft]
  split
  · exact (((((hcancelled.leaveSet d).removeTrailer d).modDoor d _).command _ _).enterState d _).raise _ _ (by decide)
  · exact ((((hcancelled.removeTrailer d).modDoor d _).command _ _).enterState d _).raise _ _ (by decide)

theorem closeWaitExpiry (h : Keeps k₀ k) (d : Fin 16) : Keeps k₀ (k.closeWaitExpiry d) := by
  unfold Dock.closeWaitExpiry
  split
  · exact ((h.cancelThrough d).raise _ _ (by decide)).closeOrFault d
  · exact h

theorem recordReport (h : Keeps k₀ k) (d : Fin 16) (rep : DoorReport) : Keeps k₀ (k.recordReport d rep) :=
  h.modDoor d _

theorem derive (h : Keeps k₀ k) (d : Fin 16) (rep : DoorReport) : Keeps k₀ (k.derive d rep) := by
  have hcleared := h.modDoor d (fun dr =>
    { dr with sealLost := false, retry := 0, timers := { dr.timers with leakGrace := none } })
  have hforced := ite (rep.position = .closed) (fun _ => hcleared.clearCondition .doorForced (.door d))
    (fun _ => hcleared)
  have hremoved := ite (rep.presence = false ∧ (k.doors[d]).trailer.isSome = true)
    (fun _ => hforced.removeTrailer d) (fun _ => hforced)
  unfold Dock.derive
  exact (ite _ (fun _ => hremoved.raise .doorForced (.door d) (by decide)) (fun _ => hremoved)).changeState d _

theorem actPresence (h : Keeps k₀ k) (d : Fin 16) (rep : DoorReport) : Keeps k₀ (k.actPresence d rep) := by
  simp only [Dock.actPresence]
  split
  · split
    · exact h.changeState d _
    · exact h
  · cases (k.doors[d]).state with
    | arrived => exact h.changeState d _
    | assigned | released => exact (h.removeTrailer d).changeState d _
    | vacant | fault | outOfService | resync => exact h
    | _ => exact h.trailerLeft d

theorem forced (h : Keeps k₀ k) (d : Fin 16) : Keeps k₀ (k.forced d) := (h.raise _ _ (by decide)).changeState d _

theorem actObstruction (h : Keeps k₀ k) (d : Fin 16) (rep : DoorReport) : Keeps k₀ (k.actObstruction d rep) := by
  simp only [Dock.actObstruction]
  split
  · split
    · exact (((h.modDoor d _).changeState d _).modDoor d _).raise _ _ (by decide)
    · exact (h.modDoor d _).changeState d _
  · exact h

theorem completeClose (h : Keeps k₀ k) (d : Fin 16) : Keeps k₀ (k.completeClose d) := by
  simp only [Dock.completeClose]
  split
  · exact ((h.modDoor d _).clearCondition _ _).changeState d _
  · exact ((h.modDoor d _).clearCondition _ _).changeState d _

theorem actTravel (h : Keeps k₀ k) (d : Fin 16) (rep : DoorReport) : Keeps k₀ (k.actTravel d rep) := by
  unfold Dock.actTravel
  split
  · exact h.changeState d _
  · exact h.completeClose d
  · exact h

theorem actLeak (h : Keeps k₀ k) (d : Fin 16) (rep : DoorReport) : Keeps k₀ (k.actLeak d rep) := by
  simp only [Dock.actLeak]
  split
  · split
    · exact h.modTimers d _
    · split
      · exact h.modTimers d _
      · exact h
  · exact h

theorem actPressure (h : Keeps k₀ k) (d : Fin 16) (rep : DoorReport) : Keeps k₀ (k.actPressure d rep) := by
  have hclear := ite ((k.doors[d]).config.hold ≤ rep.pressure)
    (fun _ => h.clearCondition .sealLost (.door d)) (fun _ => h)
  unfold Dock.actPressure
  exact (ite _ (fun _ => (ite _ (fun _ => hclear.changeState d _) (fun _ => hclear)).changeState d _)
    (fun _ => ite _ (fun _ => hclear.changeState d _) (fun _ => hclear))).actLeak d rep

theorem actRest (h : Keeps k₀ k) (d : Fin 16) (rep : DoorReport) : Keeps k₀ (k.actRest d rep) :=
  ((h.actObstruction d rep).actTravel d rep).actPressure d rep

theorem doorReport (h : Keeps k₀ k) (d : Fin 16) (rep : DoorReport) : Keeps k₀ (k.doorReport d rep) := by
  have hrecorded := h.recordReport d rep
  simp only [Dock.doorReport]
  split
  · exact hrecorded.derive d rep
  · exact hrecorded
  · exact hrecorded
  · have hpresence := hrecorded.actPresence d rep
    split
    · exact hpresence
    · split
      · exact hpresence.forced d
      · exact hpresence.actRest d rep

/-! Zones -/

theorem takeReading (h : Keeps k₀ k) (p : Fin 32) (raw : Int) : Keeps k₀ (k.takeReading p raw) := by
  simp only [Dock.takeReading]
  split
  · exact (h.modProbe p _).clearCondition _ _
  · split
    · exact h.modProbe p _
    · exact (h.modProbe p _).raise _ _ (by decide)

theorem intake (h : Keeps k₀ k) (z : Fin 8) (readings : List Int) : Keeps k₀ (k.intake z readings) :=
  foldl (fun _ e h => h.takeReading e.1 e.2) _ h

theorem substitute (h : Keeps k₀ k) (z : Fin 8) : Keeps k₀ (k.substitute z) := by
  simp only [Dock.substitute]
  split
  · exact h.modZone z _
  · split
    · exact (h.modZone z _).notify _
    · exact ((h.modZone z _).notify _).raise _ _ (by decide)

theorem measured (h : Keeps k₀ k) (z : Fin 8) (cs : List Int) : Keeps k₀ (k.measured z cs) := by
  simp only [Dock.measured]
  split
  · exact h.modZone z _
  · exact ((h.modZone z _).notify _).clearCondition _ _

theorem newTemperature (h : Keeps k₀ k) (z : Fin 8) : Keeps k₀ (k.newTemperature z) := by
  simp only [Dock.newTemperature]
  split
  · exact h.substitute z
  · exact h.measured z _

theorem restartRefresh (h : Keeps k₀ k) (z : Fin 8) : Keeps k₀ (k.restartRefresh z) := h.modZone z _

theorem feedDoors (h : Keeps k₀ k) (z : Fin 8) : Keeps k₀ (k.feedDoors z) := by
  unfold Dock.feedDoors
  split
  · exact foldl (fun _ d h => h.feed d) _ h
  · exact h

theorem handOff (h : Keeps k₀ k) (z : Fin 8) : Keeps k₀ (k.handOff z) :=
  (((((h.warmCompare z).coldCompare z).feedDoors z).firstUpdate z).recoveryTest z).clearRecoveryLate z

theorem zoneUpdate (h : Keeps k₀ k) (z : Fin 8) (readings : Option (List Int)) :
    Keeps k₀ (k.zoneUpdate z readings) := by
  cases readings with
  | none => exact (((h.accrueWhere _).newTemperature z).restartRefresh z).handOff z
  | some rs => exact ((((h.intake z rs).accrueWhere _).newTemperature z).restartRefresh z).handOff z

theorem stalenessExpiry (h : Keeps k₀ k) (p : Fin 32) : Keeps k₀ (k.stalenessExpiry p) := by
  simp only [Dock.stalenessExpiry]
  split
  · split
    · exact h.modProbe p _
    · exact (h.modProbe p _).zoneUpdate _ _
  · exact h

theorem refreshExpiry (h : Keeps k₀ k) (z : Fin 8) : Keeps k₀ (k.refreshExpiry z) := by
  unfold Dock.refreshExpiry
  split
  · exact h.zoneUpdate z _
  · exact h

theorem probeLeft (h : Keeps k₀ k) (p : Fin 32) (z : Fin 8) : Keeps k₀ (k.probeLeft p z) := by
  simp only [Dock.probeLeft]
  split
  · exact (h.clearCondition _ _).clearCondition _ _
  · exact h.clearCondition _ _

theorem bindProbe (h : Keeps k₀ k) (p : Fin 32) (target : Option (Fin 8)) : Keeps k₀ (k.bindProbe p target) := by
  unfold Dock.bindProbe
  split
  · split
    · exact h.zoneUpdate _ _
    · exact (((h.modProbe p _).probeLeft p _).zoneUpdate _ _).zoneUpdate _ _
  · exact ((h.modProbe p _).probeLeft p _).zoneUpdate _ _
  · exact (h.modProbe p _).zoneUpdate _ _
  · exact h

/-! Field loop -/

theorem nodeAnswered (h : Keeps k₀ k) (n : Fin 48) : Keeps k₀ (k.nodeAnswered n) := by
  unfold Dock.nodeAnswered
  split
  · exact h
  · exact h.modNode n _
  · exact (h.modNode n _).clearCondition _ _

theorem reportFeedback (h : Keeps k₀ k) (c1 c2 : Fin 48) (f1 f2 : Option Level) :
    Keeps k₀ (k.reportFeedback c1 c2 f1 f2) :=
  (h.writeFeedback c1 f1).writeFeedback c2 f2

theorem goodReply (h : Keeps k₀ k) (n : Fin 48) (rep : Report) : Keeps k₀ (k.goodReply n rep) := by
  simp only [Dock.goodReply]
  split
  · exact ((h.nodeAnswered n).reportFeedback _ _ _ _).doorReport _ _
  · exact (((h.nodeAnswered n).reportFeedback _ _ _ _).zoneUpdate _ _).coilReading _ _
  · exact (h.nodeAnswered n).scan _ _ _
  · exact h.nodeAnswered n

theorem tellLoss (h : Keeps k₀ k) (n : Fin 48) : Keeps k₀ (k.tellLoss n) := by
  unfold Dock.tellLoss
  split
  · exact ((h.suspendCheck _).suspendCheck _).doorNodeLost _
  · exact ((h.suspendCheck _).suspendCheck _).modDefrost _ _ (by simp)
  · exact h

theorem missedReply (h : Keeps k₀ k) (n : Fin 48) : Keeps k₀ (k.missedReply n) := by
  unfold Dock.missedReply
  split
  · split
    · exact h.modNode n _
    · exact ((h.modNode n _).raise _ _ (by decide)).tellLoss n
  · exact h

theorem bindTerminal (h : Keeps k₀ k) (t : Fin 24) (spot : Spot) : Keeps k₀ (k.bindTerminal t spot) := h.modNode _ _

theorem unbindTerminal (h : Keeps k₀ k) (t : Fin 24) : Keeps k₀ (k.unbindTerminal t) := by
  unfold Dock.unbindTerminal
  split
  · exact (h.modNode _ _).clearCondition _ _
  · exact h

/-! The plant-stop line, commissioning and the warm restart -/

theorem assertStop (h : Keeps k₀ k) : Keeps k₀ k.assertStop := by
  unfold Dock.assertStop
  split
  · exact h
  · exact (((h.setPlantStop _).raise _ _ (by decide)).doorsPlantStop).defrostPlantStop

theorem releaseStop (h : Keeps k₀ k) : Keeps k₀ k.releaseStop := by
  unfold Dock.releaseStop
  split
  · exact (((h.setPlantStop _).clearCondition _ _).doorsPlantRelease).defrostPlantRelease
  · exact h

theorem beginZone (h : Keeps k₀ k) (z : Fin 8) : Keeps k₀ (k.beginZone z) :=
  ((h.restartRefresh z).commandPhase z).modDefrost z _ (by simp)

theorem closeInterval (h : Keeps k₀ k) : Keeps k₀ k.closeInterval :=
  (foldl (fun _ d h => h.feed d) _ h).accrueWhere _

theorem restartDrains (h : Keeps k₀ k) : Keeps k₀ k.restartDrains := foldl (fun _ _ h => h.notify _) _ h

theorem recount (h : Keeps k₀ k) : Keeps k₀ k.recount :=
  h.of_guarded (by simp only [guarded, Dock.recount])

theorem restartMoves (h : Keeps k₀ k) : Keeps k₀ k.restartMoves := by
  have hrings : Keeps k₀ { k.restartDrains with
      rings := k.rings.map restartRing, flights := Vector.replicate 20 [] } :=
    h.restartDrains.of_guarded (by simp only [guarded])
  exact recount (foldl (fun _ r h => h.clearCondition .moveOverdue (.ring r)) _ hrings)

theorem enterResync (h : Keeps k₀ k) (d : Fin 16) : Keeps k₀ (k.enterResync d) := by
  simp only [Dock.enterResync]
  split
  · exact ((h.modDoor d _).clearCondition _ _).clearCondition _ _
  · exact (((h.modDoor d _).notify _).clearCondition _ _).clearCondition _ _

theorem restartDoors (h : Keeps k₀ k) : Keeps k₀ k.restartDoors :=
  foldl (fun _ d h => h.enterResync d) _ (h.of_guarded rfl)

theorem restartDefrosts (h : Keeps k₀ k) : Keeps k₀ k.restartDefrosts :=
  h.defrosts (fun _ z => by simp [restartDefrost, Phase.gate])

theorem restartChannels (h : Keeps k₀ k) : Keeps k₀ k.restartChannels :=
  h.channelTable (fun _ c => by simp [restartChannel, effectiveLevel])

theorem restartNodes (h : Keeps k₀ k) : Keeps k₀ k.restartNodes :=
  h.of_guarded (by simp only [guarded, Dock.restartNodes])

theorem restartZones (h : Keeps k₀ k) : Keeps k₀ k.restartZones :=
  h.of_guarded (by simp only [guarded, Dock.restartZones])

theorem restartBlocks (h : Keeps k₀ k) : Keeps k₀ k.restartBlocks := by
  have htransit : Keeps k₀ k.restartZones.strandTransit := h.restartZones.relocateSlots _ _
  unfold Dock.restartBlocks
  exact htransit.restartMoves.restartDoors.restartDefrosts.restartChannels.restartNodes

theorem restartNotices (h : Keeps k₀ k) : Keeps k₀ k.restartNotices :=
  (h.noticeWrite .site ({ · with queue := [], dropped := true }) (fun _ _ => Nat.zero_le _)).noticeWrite .floor
    ({ · with queue := [], dropped := true }) (fun _ _ => Nat.zero_le _)

end Keeps
end Dock
end Sys2Proof.Machine

namespace Sys2Proof.Machine

/-! ### Admission (R24, R26) -/

/-- On a table whose slots rise from `slot` on, `insertLowest` puts the record into the lowest gap: the new slot is
free, every slot below it from `slot` on is taken, and the slots rise on. -/
theorem insertLowest_spec (p : Pallet) (slot : Nat) (t : List (Nat × Pallet))
    (hrise : (t.map (·.1)).Pairwise (· < ·)) (hlow : ∀ e ∈ t, slot ≤ e.1) :
    let r := Dock.insertLowest p slot t
    r.1.Perm ((r.2, p) :: t) ∧ (r.1.map (·.1)).Pairwise (· < ·) ∧ slot ≤ r.2 ∧ r.2 ∉ t.map (·.1) ∧
    (∀ n, slot ≤ n → n < r.2 → n ∈ t.map (·.1)) ∧ r.2 ≤ slot + t.length := by
  induction t generalizing slot with
  | nil =>
    simp only [Dock.insertLowest]
    exact ⟨List.Perm.refl _, by simp, le_rfl, by simp, fun n hn hlt => absurd hn (by omega), by simp⟩
  | cons e t ih =>
    obtain ⟨hhead, htail⟩ := List.pairwise_cons.mp (by simpa only [List.map_cons] using hrise)
    have habove : ∀ x ∈ t, e.1 < x.1 := fun x hx => hhead _ (List.mem_map_of_mem hx)
    have hslot := hlow e List.mem_cons_self
    simp only [Dock.insertLowest]
    split
    next hgap =>
      refine ⟨List.Perm.refl _, ?_, le_rfl, ?_, fun n hn hlt => absurd hn (by omega), by simp⟩
      · simp only [List.map_cons, List.pairwise_cons]
        refine ⟨fun n hn => ?_, hhead, htail⟩
        rcases List.mem_cons.mp hn with rfl | hn
        · exact hgap
        · exact hgap.trans (hhead n hn)
      · intro hmem
        rcases List.mem_cons.mp (by simpa only [List.map_cons] using hmem) with heq | hmem
        · omega
        · have := hhead _ hmem; omega
    next hgap =>
      obtain ⟨hperm, hrise', hle, hnew, hfull, hlen⟩ := ih (e.1 + 1) htail (fun x hx => habove x hx)
      refine ⟨?_, ?_, by omega, ?_, fun n hn hlt => ?_, ?_⟩
      · exact (hperm.cons e).trans (List.Perm.swap _ _ _)
      · simp only [List.map_cons, List.pairwise_cons]
        refine ⟨fun n hn => ?_, hrise'⟩
        have hmem : n ∈ ((Dock.insertLowest p (e.1 + 1) t).2, p).1 :: t.map (·.1) := by
          simpa using (hperm.map (·.1)).mem_iff.mp hn
        rcases List.mem_cons.mp hmem with rfl | hmem
        · exact hle
        · exact hhead n hmem
      · rw [List.map_cons, List.mem_cons, not_or]
        exact ⟨by omega, hnew⟩
      · rw [List.map_cons, List.mem_cons]
        by_cases hne : n = e.1
        · exact .inl hne
        · exact .inr (hfull n (by omega) hlt)
      · simp only [List.length_cons]; omega

/-- The record that an admission writes. -/
def admitted (k : Dock) (tag : Word) (cls : Fin 8) (budget : Nat) (spot : Spot) : Pallet :=
  { tag := tag, cls := cls, budget := budget, exposure := 0, residue := 0, stamp := k.running, loc := .at spot,
    grade := .ok, quarantine := false, saturated := false, substituted := false, revision := 0 }

theorem findTag_eq_none_iff {k : Dock} {tag : Word} :
    k.findTag tag = none ↔ tag ∉ k.pallets.map (·.2.tag) := by
  simp [Dock.findTag]

section AdmitOne

variable {k : Dock} (tag : Word) (cls : Fin 8) (budget : Nat) (spot : Spot)

/-- R24, R26: one record admitted to a table in order. -/
theorem admitOne_spec (hrise : (k.pallets.map (·.1)).Pairwise (· < ·)) :
    let r := k.admitOne tag cls budget spot
    r.1.pallets.Perm ((r.2, admitted k tag cls budget spot) :: k.pallets) ∧
    (r.1.pallets.map (·.1)).Pairwise (· < ·) ∧ r.2 ∉ k.pallets.map (·.1) ∧
    (∀ n, n < r.2 → n ∈ k.pallets.map (·.1)) ∧ r.2 ≤ k.pallets.length := by
  obtain ⟨hperm, hrise', -, hnew, hfull, hlen⟩ :=
    insertLowest_spec (admitted k tag cls budget spot) 0 k.pallets hrise (fun _ _ => Nat.zero_le _)
  exact ⟨hperm, hrise', hnew, fun n hn => hfull n (Nat.zero_le _) hn, hlen.trans (Nat.zero_add _).le⟩

theorem PalletsOk.admitOne (h : PalletsOk k) (htag : tag ≠ 0) (hnew : k.findTag tag = none)
    (hroom : k.pallets.length < 1024) : PalletsOk (k.admitOne tag cls budget spot).1 := by
  obtain ⟨hperm, hrise, -, -, hlen⟩ := admitOne_spec tag cls budget spot h.rising
  have hmem : ∀ e ∈ (k.admitOne tag cls budget spot).1.pallets,
      e = ((k.admitOne tag cls budget spot).2, admitted k tag cls budget spot) ∨ e ∈ k.pallets := fun e he => by
    simpa using hperm.mem_iff.mp he
  exact {
    rising := hrise
    within := fun e he => by
      rcases hmem e he with rfl | he
      · exact lt_of_le_of_lt hlen hroom
      · exact h.within e he
    single := by
      rw [(hperm.map (·.2.tag)).nodup_iff, List.map_cons, List.nodup_cons]
      exact ⟨findTag_eq_none_iff.mp hnew, h.single⟩
    tags := fun e he => by
      rcases hmem e he with rfl | he
      · exact htag
      · exact h.tags e he
    exposure := fun e he => by
      rcases hmem e he with rfl | he
      · exact Nat.zero_le _
      · exact h.exposure e he
    residue := fun e he => by
      rcases hmem e he with rfl | he
      · exact Nat.zero_lt_succ 959
      · exact h.residue e he }

end AdmitOne

/-- R24 to R26: the entries of an accepted ADMIT leave a table in order in order. -/
theorem PalletsOk.admitEvery {k : Dock} (h : PalletsOk k) (spot : Spot) (entries : List Entry)
    (htags : ∀ e ∈ entries, e.tag ≠ 0) (hnew : ∀ e ∈ entries, k.findTag e.tag = none)
    (hnodup : (entries.map (·.tag)).Nodup) (hroom : k.pallets.length + entries.length ≤ 1024) :
    PalletsOk (k.admitEvery spot entries).1 := by
  induction entries generalizing k with
  | nil => exact h
  | cons e entries ih =>
    obtain ⟨hfresh, hnodup'⟩ := List.nodup_cons.mp (by simpa only [List.map_cons] using hnodup)
    let budget := e.override.getD (k.classes[e.cls]).budget
    obtain ⟨hperm, -⟩ := admitOne_spec e.tag e.cls budget spot h.rising
    have hlen := hperm.length_eq
    simp only [List.length_cons] at hlen hroom
    refine ih (h.admitOne e.tag e.cls budget spot (htags e List.mem_cons_self) (hnew e List.mem_cons_self) (by omega))
      (fun x hx => htags x (List.mem_cons_of_mem _ hx)) (fun x hx => ?_) hnodup'
      (by rw [hlen]; omega)
    rw [findTag_eq_none_iff, (hperm.map (·.2.tag)).mem_iff, List.map_cons, List.mem_cons, not_or]
    refine ⟨fun heq => hfresh ?_, findTag_eq_none_iff.mp (hnew x (List.mem_cons_of_mem _ hx))⟩
    have heq' : x.tag = e.tag := heq
    rw [← heq']; exact List.mem_map_of_mem hx

theorem readEvery_mem {α β : Type} {f : α → Option β} {as : List α} {bs : List β}
    (h : readEvery f as = some bs) : ∀ b ∈ bs, ∃ a ∈ as, f a = some b := by
  induction as generalizing bs with
  | nil => obtain rfl := Option.some.inj h; simp
  | cons a as ih =>
    simp only [readEvery] at h
    split at h
    next b bs' hb hbs =>
      obtain rfl := Option.some.inj h
      intro x hx
      rcases List.mem_cons.mp hx with rfl | hx
      · exact ⟨a, List.mem_cons_self, hb⟩
      · obtain ⟨y, hy, hfy⟩ := ih hbs x hx
        exact ⟨y, List.mem_cons_of_mem _ hy, hfy⟩
    next => cases h

theorem readEvery_length {α β : Type} {f : α → Option β} {as : List α} {bs : List β}
    (h : readEvery f as = some bs) : bs.length = as.length := by
  induction as generalizing bs with
  | nil => obtain rfl := Option.some.inj h; rfl
  | cons a as ih =>
    simp only [readEvery] at h
    split at h
    next b bs' hb hbs =>
      obtain rfl := Option.some.inj h
      rw [List.length_cons, List.length_cons, ih hbs]
    next => cases h

/-- R25 check 1: the tag of an entry that is read is not 0. -/
theorem readEntry_tag_ne {a : AdmitEntry} {e : Entry} (h : readEntry a = some e) : e.tag ≠ 0 := by
  simp only [readEntry] at h
  split at h
  · split at h
    · cases h
    next htag => obtain rfl := Option.some.inj h; exact htag
  · cases h

/-- An admission writes the pallet table alone. -/
theorem admitEvery_eq (k : Dock) (spot : Spot) (entries : List Entry) :
    (k.admitEvery spot entries).1 = { k with pallets := (k.admitEvery spot entries).1.pallets } := by
  induction entries generalizing k with
  | nil => rfl
  | cons e entries ih => simp only [Dock.admitEvery]; rw [ih]; rfl

/-! ### Requests that the dock's records answer (R200) -/

/-- What a request of a block does: it is refused and changes nothing, or it is answered OK or PENDING and keeps
the invariants. -/
inductive Dock.Answers (k : Dock) : Dock × Reply → Prop
  | refused (st : Status) (data : List Byte) : Answers k (k, { status := st, data := data })
  | accepted {k' : Dock} (h : k.Keeps k') (data : List Byte) : Answers k (accept k' data)
  | postponed {k' : Dock} (h : k.Keeps k') : Answers k (k', { status := .pending })

namespace Dock

variable {k : Dock}

theorem answers_refuse (st : Status) : k.Answers (refuse k st) := .refused st []

theorem answers_read (data : List Byte) : k.Answers (accept k data) := .accepted .refl data

/-- A block's checks: each ends in a refusal or goes on. -/
theorem Answers.ite (p : Prop) [Decidable p] {a b : Dock × Reply} (ha : p → k.Answers a) (hb : ¬ p → k.Answers b) :
    k.Answers (if p then a else b) := by
  split
  next hp => exact ha hp
  next hp => exact hb hp

/-! Zone Monitor -/

theorem setZone_answers (k : Dock) (a : SetZone) : k.Answers (k.setZone a) := by
  simp only [Dock.setZone]
  split
  · exact answers_refuse _
  · split
    · exact .ite _ (fun _ => answers_refuse _) (fun _ => .accepted ((Keeps.refl.modZone _ _).zoneUpdate _ _) _)
    · exact answers_refuse _

theorem setProbe_answers (k : Dock) (a : SetProbe) : k.Answers (k.setProbe a) := by
  simp only [Dock.setProbe]
  split
  · split
    · exact answers_refuse _
    · exact .ite _ (fun _ => answers_refuse _) (fun _ => .accepted ((Keeps.refl.modProbe _ _).bindProbe _ _) _)
  · exact answers_refuse _

theorem readZone_answers (k : Dock) (zone clear : Byte) : k.Answers (k.readZone zone clear) := by
  simp only [Dock.readZone]
  split
  · exact answers_refuse _
  · split
    · exact answers_refuse _
    · exact .accepted (.ite _ (fun _ => Keeps.refl.modZone _ _) (fun _ => .refl)) _

theorem readProbe_answers (k : Dock) (b : Byte) : k.Answers (k.readProbe b) := by
  unfold Dock.readProbe
  split
  · exact answers_refuse _
  · exact answers_read _

/-! Pallet Table -/

theorem setClass_answers (k : Dock) (a : SetClass) : k.Answers (k.setClass a) := by
  simp only [Dock.setClass]
  split
  · exact .accepted (Keeps.foldl (fun _ slot h => h.regrade slot) _ ((Keeps.refl.accrueSlots _).setClasses _)) _
  · exact answers_refuse _

theorem readClass_answers (k : Dock) (b : Byte) : k.Answers (k.readClass b) := by
  unfold Dock.readClass
  split
  · exact answers_refuse _
  · exact answers_read _

/-- R25: an admission that no check refuses has fresh tags and room. -/
theorem admitRefusal_eq_none {spot : Spot} {entries : List Entry} (h : k.admitRefusal spot entries = none) :
    (∀ e ∈ entries, k.findTag e.tag = none) ∧ (entries.map (·.tag)).Nodup ∧
      k.pallets.length + entries.length ≤ 1024 := by
  unfold Dock.admitRefusal at h
  split at h
  · cases h
  split at h
  · cases h
  split at h
  · cases h
  split at h
  · cases h
  rename_i hdup hfull
  rw [not_or, not_not] at hdup
  refine ⟨fun e he => ?_, hdup.2, Nat.not_lt.mp hfull⟩
  have := hdup.1
  simp only [List.any_eq_true, not_exists, not_and] at this
  exact Option.not_isSome_iff_eq_none.mp (this e he)

theorem admitPallets_answers (k : Dock) (a : Admit) : k.Answers (k.admitPallets a) := by
  simp only [Dock.admitPallets]
  split
  next spot entries hspot hentries hcount =>
    split
    · exact answers_refuse _
    next hchecks =>
      obtain ⟨hnew, hnodup, hroom⟩ := admitRefusal_eq_none hchecks
      have htags : ∀ e ∈ entries, e.tag ≠ 0 := fun e he => by
        obtain ⟨x, -, hx⟩ := readEvery_mem hentries e he
        exact readEntry_tag_ne hx
      have hkeeps : k.Keeps (k.admitEvery spot entries).1 := by
        rw [admitEvery_eq]
        refine Keeps.refl.palletTable (fun hp => ?_)
        rw [← admitEvery_eq]
        exact hp.admitEvery spot entries htags hnew hnodup hroom
      refine .accepted ?_ _
      split
      · exact hkeeps.modLane _ _
      · exact hkeeps
  · exact answers_refuse _

theorem amendPallet_answers (k : Dock) (l : Link) (a : AmendPallet) : k.Answers (k.amendPallet l a) := by
  simp only [Dock.amendPallet]
  split
  · exact answers_refuse _
  · refine .ite _ (fun _ => answers_refuse _) (fun _ => ?_)
    split
    · exact answers_refuse _
    · refine .ite _ (fun _ => .refused _ _) (fun _ => .ite _ (fun _ => answers_refuse _) (fun _ => ?_))
      exact .accepted (((Keeps.refl.accrue _).modPallet _ _ (by exact fun _ => ⟨rfl, rfl, rfl⟩)).regrade _) _

theorem readPallet_answers (k : Dock) (tag : Word) : k.Answers (k.readPallet tag) := by
  simp only [Dock.readPallet]
  refine .ite _ (fun _ => answers_refuse _) (fun _ => ?_)
  split
  · exact answers_refuse _
  · exact .accepted (Keeps.refl.accrue _) _

theorem listPallets_answers (k : Dock) (a : ListPallets) : k.Answers (k.listPallets a) := by
  simp only [Dock.listPallets]
  split
  · exact answers_refuse _
  · exact .ite _ (fun _ => answers_refuse _) (fun _ => .ite _ (fun _ => answers_refuse _)
      (fun _ => .accepted (Keeps.refl.accrueSlots _) _))

theorem releasePallet_answers (k : Dock) (tag : Word) : k.Answers (k.releasePallet tag) := by
  simp only [Dock.releasePallet]
  refine .ite _ (fun _ => answers_refuse _) (fun _ => ?_)
  split
  · exact answers_refuse _
  · exact .ite _ (fun _ => answers_refuse _) (fun _ => .ite _ (fun _ => answers_refuse _)
      (fun _ => .accepted (((Keeps.refl.accrue _).clearCondition _ _).emptySlot _) _))

/-! Move Engine -/

theorem setLane_answers (k : Dock) (a : SetLane) : k.Answers (k.setLane a) := by
  simp only [Dock.setLane]
  split
  · exact .ite _ (fun _ => answers_refuse _) (fun _ => .ite _ (fun _ => answers_refuse _)
      (fun _ => .accepted (Keeps.refl.modLane _ _) _))
  · exact answers_refuse _

theorem setLaneState_answers (k : Dock) (b : Byte) (st : LaneState) : k.Answers (k.setLaneState b st) := by
  unfold Dock.setLaneState
  split
  · exact answers_refuse _
  · exact .accepted (Keeps.refl.modLane _ _) _

theorem readLane_answers (k : Dock) (b : Byte) : k.Answers (k.readLane b) := by
  unfold Dock.readLane
  split
  · exact answers_refuse _
  · exact answers_read _

theorem postMoves_answers (k : Dock) (a : PostMoves) : k.Answers (k.postMoves a) := by
  simp only [Dock.postMoves]
  split
  · exact answers_refuse _
  · split
    · split
      · exact answers_refuse _
      · exact .accepted (Keeps.refl.modRing _ _) _
    · exact answers_refuse _

theorem runRing_answers (k : Dock) (b : Byte) : k.Answers (k.runRing b) := by
  unfold Dock.runRing
  split
  · exact answers_refuse _
  · exact .ite _ (fun _ => answers_read _) (fun _ => .accepted (Keeps.refl.modRing _ _) _)

theorem pauseRing_answers (k : Dock) (b : Byte) : k.Answers (k.pauseRing b) := by
  unfold Dock.pauseRing
  split
  · exact answers_refuse _
  · exact .ite _ (fun _ => answers_refuse _) (fun _ => .accepted (Keeps.refl.modRing _ _) _)

theorem clearRing_answers (k : Dock) (b : Byte) : k.Answers (k.clearRing b) := by
  unfold Dock.clearRing
  split
  · exact answers_refuse _
  · exact .ite _ (fun _ => answers_refuse _) (fun _ => .accepted (Keeps.refl.modRing _ _) _)

theorem cancelHead_answers (k : Dock) (b : Byte) : k.Answers (k.cancelHead b) := by
  simp only [Dock.cancelHead]
  split
  · exact answers_refuse _
  · split
    · exact answers_refuse _
    · exact .ite _ (fun _ => .accepted (Keeps.refl.cancelPicked _ _ _) _)
        (fun _ => .accepted (Keeps.refl.advance _ _) _)

theorem readRing_answers (k : Dock) (a : ReadRing) : k.Answers (k.readRing a) := by
  unfold Dock.readRing
  split
  · exact answers_refuse _
  · exact .ite _ (fun _ => answers_refuse _) (fun _ => .accepted (Keeps.refl.modRing _ _) _)

/-! Door Sequencer -/

theorem setDoor_answers (k : Dock) (a : SetDoor) : k.Answers (k.setDoor a) := by
  simp only [Dock.setDoor]
  split
  · refine .ite _ (fun _ => answers_refuse _) (fun _ => .ite _ (fun _ => answers_refuse _)
      (fun _ => .ite _ (fun _ => answers_refuse _) (fun _ => .accepted (Keeps.modDoor ?_ _ _) _)))
    exact .ite _ (fun _ => Keeps.refl.accrueTrailer _) (fun _ => .refl)
  · exact answers_refuse _

theorem assignTrailer_answers (k : Dock) (a : AssignTrailer) : k.Answers (k.assignTrailer a) := by
  unfold Dock.assignTrailer
  split
  · exact .ite _ (fun _ => answers_refuse _) (fun _ => .ite _ (fun _ => answers_refuse _)
      (fun _ => .accepted ((Keeps.refl.modDoor _ _).changeState _ _) _))
  · exact answers_refuse _

theorem dockDoor_answers (k : Dock) (b : Byte) : k.Answers (k.dockDoor b) := by
  simp only [Dock.dockDoor]
  split
  · exact answers_refuse _
  · exact .ite _ (fun _ => answers_refuse _) (fun _ => .ite _ (fun _ => answers_refuse _)
      (fun _ => .accepted (Keeps.refl.changeState _ _) _))

theorem undockDoor_answers (k : Dock) (b : Byte) : k.Answers (k.undockDoor b) := by
  unfold Dock.undockDoor
  split
  · exact answers_refuse _
  · split
    · exact .accepted (Keeps.refl.changeState _ _) _
    · exact .accepted (Keeps.refl.changeState _ _) _
    · exact answers_read _
    · exact answers_refuse _

theorem openDoor_answers (k : Dock) (b : Byte) : k.Answers (k.openDoor b) := by
  simp only [Dock.openDoor]
  split
  · exact answers_refuse _
  · refine .ite _ (fun _ => answers_refuse _) (fun _ => .ite _ (fun _ => answers_refuse _) (fun _ => ?_))
    split
    · exact answers_refuse _
    · split
      · exact answers_refuse _
      · exact answers_refuse _
      · exact answers_refuse _
      · exact .accepted (Keeps.refl.changeState _ _) _

/-- R92: a close that is taken is answered OK or PENDING. -/
theorem answers_takeClose (d : Fin 16) (p : Prop) [Decidable p] :
    k.Answers (k.takeClose d, { status := if p then .ok else .pending }) := by
  split
  · exact .accepted (Keeps.refl.takeClose d) []
  · exact .postponed (Keeps.refl.takeClose d)

theorem closeDoor_answers (k : Dock) (b : Byte) : k.Answers (k.closeDoor b) := by
  simp only [Dock.closeDoor]
  split
  · exact answers_refuse _
  · refine .ite _ (fun _ => answers_refuse _) (fun _ => ?_)
    split
    · exact answers_takeClose _ _
    · exact answers_takeClose _ _
    · exact .postponed .refl
    · exact answers_read _
    · exact answers_refuse _

theorem serviceDoor_answers (k : Dock) (b : Byte) : k.Answers (k.serviceDoor b) := by
  unfold Dock.serviceDoor
  split
  · exact answers_refuse _
  · split
    · exact .accepted (Keeps.refl.changeState _ _) _
    · exact .accepted (Keeps.refl.changeState _ _) _
    · exact .accepted (Keeps.refl.changeState _ _) _
    · exact .accepted (Keeps.refl.changeState _ _) _
    · exact answers_refuse _

theorem returnDoor_answers (k : Dock) (b : Byte) : k.Answers (k.returnDoor b) := by
  simp only [Dock.returnDoor]
  split
  · exact answers_refuse _
  · exact .ite _ (fun _ => answers_refuse _) (fun _ => .accepted
      (((((Keeps.refl.returnChannel _).returnChannel _).changeState _ _).clearCondition _ _).clearCondition _ _) _)

theorem readDoor_answers (k : Dock) (b : Byte) : k.Answers (k.readDoor b) := by
  unfold Dock.readDoor
  split
  · exact answers_refuse _
  · exact answers_read _

/-! Defrost Controller -/

theorem setDefrost_answers (k : Dock) (a : SetDefrost) : k.Answers (k.setDefrost a) := by
  simp only [Dock.setDefrost]
  split
  · exact .ite _ (fun _ => answers_refuse _) (fun _ => .accepted ((Keeps.refl.modDefrost _ _ (by simp)).dueTest _) _)
  · exact answers_refuse _

theorem setSlots_answers (k : Dock) (b : Byte) : k.Answers (k.setSlots b) := by
  unfold Dock.setSlots
  exact .ite _ (fun _ => answers_refuse _) (fun _ => .ite _ (fun _ => answers_refuse _)
    (fun _ => .accepted (Keeps.refl.setSlotLimit _).arbiter _))

theorem readDefrost_answers (k : Dock) (b : Byte) : k.Answers (k.readDefrost b) := by
  unfold Dock.readDefrost
  split
  · exact answers_refuse _
  · exact answers_read _

theorem requestDefrost_answers (k : Dock) (b : Byte) : k.Answers (k.requestDefrost b) := by
  unfold Dock.requestDefrost
  split
  · exact answers_refuse _
  · split
    · exact .accepted (Keeps.refl.enterDue _) _
    · exact answers_read _
    · exact answers_refuse _

theorem inhibitDefrost_answers (k : Dock) (b : Byte) : k.Answers (k.inhibitDefrost b) := by
  unfold Dock.inhibitDefrost
  split
  · exact answers_refuse _
  · split
    · exact .accepted (Keeps.refl.enterPhase _ _) _
    · exact .accepted (Keeps.refl.enterPhase _ _) _
    · exact answers_read _
    · exact answers_refuse _

theorem restoreDefrost_answers (k : Dock) (b : Byte) : k.Answers (k.restoreDefrost b) := by
  simp only [Dock.restoreDefrost]
  split
  · exact answers_refuse _
  · exact .ite _ (fun _ => answers_refuse _) (fun _ => .accepted
      ((((Keeps.refl.returnManual _).returnManual _).enterPhase _ _).dueTest _) _)

/-! Output Channels and Alarm List -/

theorem setChannel_answers (k : Dock) (a : SetChannel) : k.Answers (k.setChannel a) := by
  simp only [Dock.setChannel]
  split
  · exact answers_refuse _
  · split
    · exact answers_refuse _
    · exact .ite _ (fun _ => answers_refuse _) (fun _ => .ite _ (fun _ => answers_refuse _)
        (fun _ => .accepted (Keeps.refl.setByHand _ _) _))

theorem readChannel_answers (k : Dock) (b : Byte) : k.Answers (k.readChannel b) := by
  unfold Dock.readChannel
  split
  · exact answers_refuse _
  · exact .ite _ (fun _ => answers_read _) (fun _ => answers_refuse _)

theorem ackAlarm_answers (k : Dock) (l : Link) (a : AckAlarm) : k.Answers (k.ackAlarm l a) := by
  unfold Dock.ackAlarm
  split
  · exact answers_refuse _
  · refine .ite _ (fun _ => ?_) (fun _ => ?_)
    · split
      · exact answers_refuse _
      · exact .accepted (Keeps.refl.ackOverflow l) _
    · split
      · exact answers_refuse _
      · exact .accepted (Keeps.refl.ackEntry l _) _

theorem ackAll_answers (k : Dock) (l : Link) : k.Answers (k.ackAll l) := .accepted (Keeps.refl.ackEvery l) _

theorem setMask_answers (k : Dock) (kind setting : Byte) : k.Answers (k.setMask kind setting) := by
  simp only [Dock.setMask]
  split
  · exact .ite _ (fun _ => .accepted (Keeps.refl.remask _) _) (fun _ => answers_refuse _)
  · exact answers_refuse _

theorem readAlarms_answers (k : Dock) (b : Byte) : k.Answers (k.readAlarms b) := by
  unfold Dock.readAlarms
  exact .ite _ (fun _ => answers_refuse _) (fun _ => answers_read _)

/-! Field Loop Master and Link Interface -/

theorem setTerminal_answers (k : Dock) (a : SetTerminal) : k.Answers (k.setTerminal a) := by
  simp only [Dock.setTerminal]
  split
  · exact .accepted (Keeps.refl.unbindTerminal _) _
  · exact .ite _ (fun _ => answers_refuse _) (fun _ => .ite _ (fun _ => answers_refuse _)
      (fun _ => .accepted (Keeps.refl.bindTerminal _ _) _))
  · exact answers_refuse _

theorem readNode_answers (k : Dock) (b : Byte) : k.Answers (k.readNode b) := by
  unfold Dock.readNode
  refine .ite _ (fun _ => answers_refuse _) (fun _ => ?_)
  split
  · exact answers_refuse _
  · exact answers_read _

theorem setClock_answers (k : Dock) (t : Word) : k.Answers (k.setClock t) :=
  .accepted (Keeps.refl.setOffset _) _

theorem commission_answers (k : Dock) (a : CommissionArgs) : k.Answers (k.commission a) := by
  simp only [Dock.commission]
  refine .ite _ (fun _ => answers_refuse _) (fun _ => .ite _ (fun _ => answers_refuse _) (fun _ => ?_))
  refine .accepted (Keeps.foldl (fun _ z h => h.beginZone z) _ ?_) _
  exact Keeps.refl.of_guarded (by simp only [guarded, Dock.fitNodes])

theorem setNotices_answers (k : Dock) (l : Link) (g : Byte) : k.Answers (k.setNotices l g) := by
  unfold Dock.setNotices
  exact .ite _ (fun _ => answers_refuse _) (fun _ => .accepted
    (Keeps.refl.noticeWrite l ({ · with groups := g.extractLsb' 0 7 }) (fun _ h => h)) _)

end Dock

/-- The requests that act on the hold table, the notes, a link's own notice flag or the whole part; every other
one is a block's operation on the dock's records. -/
def beyondDock : Request → Bool
  | .takeHold _ _ | .dropHold _ | .readHolds | .putNote _ | .takeNote | .status | .restart => true
  | _ => false

/-- What the block of a request on the dock's records does (R199 to R201). -/
theorem performBlock_onDock (l : Link) (r : Request) (h : beyondDock r = false) :
    ∃ f : Dock → Dock × Reply, (∀ s : State, s.performBlock l r = s.onDock f) ∧ ∀ k : Dock, k.Answers (f k) := by
  cases r with
  | setZone a => exact ⟨_, fun _ => rfl, (·.setZone_answers a)⟩
  | setProbe a => exact ⟨_, fun _ => rfl, (·.setProbe_answers a)⟩
  | readZone z c => exact ⟨_, fun _ => rfl, (·.readZone_answers z c)⟩
  | readProbe p => exact ⟨_, fun _ => rfl, (·.readProbe_answers p)⟩
  | setClass a => exact ⟨_, fun _ => rfl, (·.setClass_answers a)⟩
  | readClass c => exact ⟨_, fun _ => rfl, (·.readClass_answers c)⟩
  | admitPallets a => exact ⟨_, fun _ => rfl, (·.admitPallets_answers a)⟩
  | amendPallet a => exact ⟨_, fun _ => rfl, (·.amendPallet_answers l a)⟩
  | readPallet t => exact ⟨_, fun _ => rfl, (·.readPallet_answers t)⟩
  | listPallets a => exact ⟨_, fun _ => rfl, (·.listPallets_answers a)⟩
  | releasePallet t => exact ⟨_, fun _ => rfl, (·.releasePallet_answers t)⟩
  | setLane a => exact ⟨_, fun _ => rfl, (·.setLane_answers a)⟩
  | blockLane n => exact ⟨_, fun _ => rfl, (·.setLaneState_answers n .blocked)⟩
  | unblockLane n => exact ⟨_, fun _ => rfl, (·.setLaneState_answers n .enabled)⟩
  | readLane n => exact ⟨_, fun _ => rfl, (·.readLane_answers n)⟩
  | postMoves a => exact ⟨_, fun _ => rfl, (·.postMoves_answers a)⟩
  | runRing r => exact ⟨_, fun _ => rfl, (·.runRing_answers r)⟩
  | pauseRing r => exact ⟨_, fun _ => rfl, (·.pauseRing_answers r)⟩
  | clearRing r => exact ⟨_, fun _ => rfl, (·.clearRing_answers r)⟩
  | cancelHead r => exact ⟨_, fun _ => rfl, (·.cancelHead_answers r)⟩
  | readRing a => exact ⟨_, fun _ => rfl, (·.readRing_answers a)⟩
  | setDoor a => exact ⟨_, fun _ => rfl, (·.setDoor_answers a)⟩
  | assignTrailer a => exact ⟨_, fun _ => rfl, (·.assignTrailer_answers a)⟩
  | dock d => exact ⟨_, fun _ => rfl, (·.dockDoor_answers d)⟩
  | undock d => exact ⟨_, fun _ => rfl, (·.undockDoor_answers d)⟩
  | openDoor d => exact ⟨_, fun _ => rfl, (·.openDoor_answers d)⟩
  | closeDoor d => exact ⟨_, fun _ => rfl, (·.closeDoor_answers d)⟩
  | serviceDoor d => exact ⟨_, fun _ => rfl, (·.serviceDoor_answers d)⟩
  | returnDoor d => exact ⟨_, fun _ => rfl, (·.returnDoor_answers d)⟩
  | readDoor d => exact ⟨_, fun _ => rfl, (·.readDoor_answers d)⟩
  | setDefrost a => exact ⟨_, fun _ => rfl, (·.setDefrost_answers a)⟩
  | setSlots n => exact ⟨_, fun _ => rfl, (·.setSlots_answers n)⟩
  | readDefrost z => exact ⟨_, fun _ => rfl, (·.readDefrost_answers z)⟩
  | requestDefrost z => exact ⟨_, fun _ => rfl, (·.requestDefrost_answers z)⟩
  | inhibitDefrost z => exact ⟨_, fun _ => rfl, (·.inhibitDefrost_answers z)⟩
  | restoreDefrost z => exact ⟨_, fun _ => rfl, (·.restoreDefrost_answers z)⟩
  | setChannel a => exact ⟨_, fun _ => rfl, (·.setChannel_answers a)⟩
  | readChannel c => exact ⟨_, fun _ => rfl, (·.readChannel_answers c)⟩
  | ackAlarm a => exact ⟨_, fun _ => rfl, (·.ackAlarm_answers l a)⟩
  | ackAll => exact ⟨_, fun _ => rfl, (·.ackAll_answers l)⟩
  | setMask a st => exact ⟨_, fun _ => rfl, (·.setMask_answers a st)⟩
  | readAlarms n => exact ⟨_, fun _ => rfl, (·.readAlarms_answers n)⟩
  | setTerminal a => exact ⟨_, fun _ => rfl, (·.setTerminal_answers a)⟩
  | readNode n => exact ⟨_, fun _ => rfl, (·.readNode_answers n)⟩
  | setClock t => exact ⟨_, fun _ => rfl, (·.setClock_answers t)⟩
  | readClock => exact ⟨_, fun _ => rfl, fun _ => Dock.answers_read _⟩
  | commission a => exact ⟨_, fun _ => rfl, (·.commission_answers a)⟩
  | identify => exact ⟨_, fun _ => rfl, fun _ => Dock.answers_read _⟩
  | setNotices g => exact ⟨_, fun _ => rfl, (·.setNotices_answers l g)⟩
  | takeHold | dropHold | readHolds | putNote | takeNote | status | restart => cases h

end Sys2Proof.Machine

/-! PROOFS. What a command can do to the state (R198 to R203, R213): the requests answered on their links, the
refusals, one inversion for all commands, and the statements on requests in general and on what every step keeps. -/

namespace Sys2Proof.Machine

/-! ### A request and the place it takes (R198 to R200) -/

/-- R198: a place taken in a link's input buffer. -/
def LinkEnd.take (p : Place) (e : LinkEnd) : LinkEnd := { e with places := e.places ++ [p] }

namespace State

variable {s : State} {l : Link}

theorem forceHold_modLink (l' : Link) (f : LinkEnd → LinkEnd) (d : Fin 16) :
    (s.modLink l' f).forceHold d = (s.forceHold d).modLink l' f := by
  cases hreason : (s.holds[d]).lostReason with
  | none => simp only [forceHold, modLink_holds, hreason]; cases l' <;> rfl
  | some reason => simp only [forceHold, modLink_holds, hreason]; cases l' <;> rfl

theorem takeHold_modLink (l' : Link) (f : LinkEnd → LinkEnd) (door force : Byte) :
    (s.modLink l' f).takeHold l door force =
      ((s.takeHold l door force).1.modLink l' f, (s.takeHold l door force).2) := by
  cases hforce : readBit force with
  | none => simp only [takeHold, hforce]; rfl
  | some forced =>
    cases hdoor : s.dock.doorOf door with
    | error st => simp only [takeHold, hforce, holdDoor, modLink_dock, hdoor]; rfl
    | ok d =>
      simp only [takeHold, hforce, holdDoor, modLink_dock, hdoor, forceHold_modLink]
      cases forced <;> cases l' <;> rfl

theorem passNotice_modLink (l' : Link) (f : LinkEnd → LinkEnd) (d : Fin 16) (before after : Hold) :
    (s.modLink l' f).passNotice d before after l = (s.passNotice d before after l).modLink l' f := by
  unfold passNotice
  rcases before with ⟨_ | h, p⟩
  · rfl
  · rcases after with ⟨_ | h', p'⟩
    · rfl
    · by_cases hl : h = l
      · simp only [hl, if_true]; cases l' <;> rfl
      · simp only [hl, if_false]

theorem dropHold_modLink (l' : Link) (f : LinkEnd → LinkEnd) (door : Byte) :
    (s.modLink l' f).dropHold l door = ((s.dropHold l door).1.modLink l' f, (s.dropHold l door).2) := by
  have hmod (d : Fin 16) (h : Hold) :
      (s.modLink l' f).modHold d (fun _ => h) = (s.modHold d (fun _ => h)).modLink l' f := by
    cases l' <;> rfl
  cases hdoor : s.dock.doorOf door with
  | error st => simp only [dropHold, holdDoor, modLink_dock, hdoor]; rfl
  | ok d =>
    cases hdrop : (s.holds[d]).drop l with
    | none => simp only [dropHold, holdDoor, modLink_dock, hdoor, modLink_holds, hdrop]; rfl
    | some h =>
      simp only [dropHold, holdDoor, modLink_dock, hdoor, modLink_holds, hdrop, hmod, passNotice_modLink]
      rfl

theorem restart_take (l' : Link) (p : Place) :
    (s.modLink l' (·.take p)).restart = (s.restart.1.modLink l' (·.take p), s.restart.2) := by
  cases l' <;> simp only [restart, accept, modLink, LinkEnd.restart, LinkEnd.take]

/-- No block reads or writes the input buffer, so a request may take its place before or after it is performed. -/
theorem performBlock_take (l' : Link) (p : Place) (r : Request) :
    (s.modLink l' (·.take p)).performBlock l r =
      ((s.performBlock l r).1.modLink l' (·.take p), (s.performBlock l r).2) := by
  cases hr : beyondDock r with
  | false =>
    obtain ⟨f, hf, -⟩ := performBlock_onDock l r hr
    rw [hf, hf]; cases l' <;> rfl
  | true =>
    cases r with
    | takeHold d force => exact takeHold_modLink l' _ d force
    | dropHold d => exact dropHold_modLink l' _ d
    | readHolds => cases l' <;> rfl
    | putNote text => exact putNote_modLink l' _
    | takeNote => exact takeNote_modLink l' _
    | status => cases l' <;> rfl
    | restart => exact restart_take l' p
    | _ => cases hr

/-- R198: a request out of reset with a place free and a list that fits: it takes the place, is performed and is
answered. -/
theorem request_of_place {r : Request} (tag : Byte) (hlive : s.inReset = false)
    (hplace : (s.linkEnd l).places.length < 2) (hfits : requestFits r = true) {t : State} {reply : Reply}
    (hperform : (s.modLink l (·.take { tag := tag, received := .known r })).perform l (.known r) =
      (t.modLink l (·.take { tag := tag, received := .known r }), reply)) :
    s.request l tag r = .next (t.answered l tag r reply) := by
  have hperform' : (s.modLink l (fun e => { e with places := e.places ++ [{ tag := tag, received := .known r }] })
      ).perform l (.known r) = _ := hperform
  simp only [request, live, hlive, receive, receivedRequest, hfits, if_true, Config.bufferPlaces, hplace, hperform']
  rfl

end State

/-- Every request's command is the request received on its link. -/
theorem exec_commandOf (l : Link) (tag : Byte) (r : Request) (s : State) :
    exec (commandOf l tag r) s = s.request l tag r := by
  cases r with
  | takeHold d force =>
    by_cases hforce : force = 1
    · simp only [commandOf, hforce, if_true]; rfl
    · simp only [commandOf, hforce, if_false]; rfl
  | _ => rfl

/-- Settles O2: the checks let a ready request pass, and its block does the same before and after the place is
taken. -/
theorem requestAnswered : Obligations.RequestAnswered := by
  intro s l tag r hready
  have hpass : (s.modLink l (·.take { tag := tag, received := .known r })).linkRefusal l r = none := by
    rw [State.linkRefusal_modLink]; exact State.linkRefusal_of_ready hready
  obtain ⟨hlive, hplace, hfits, -⟩ := hready
  rw [exec_commandOf]
  exact State.request_of_place tag hlive hplace hfits (by
    simp only [State.perform, hpass]; exact State.performBlock_take l _ r)

/-- A ready request, by what its block answers. -/
theorem exec_of_ready {s : State} {l : Link} {tag : Byte} {r : Request} (h : Ready s l r) {t : State} {reply : Reply}
    (hblock : s.performBlock l r = (t, reply)) : exec (commandOf l tag r) s = .next (t.answered l tag r reply) := by
  rw [requestAnswered s l tag r h, hblock]

/-- A ready request that is answered by an operation `f` on the dock's records. -/
theorem exec_of_ready_dock {s : State} {l : Link} {tag : Byte} {r : Request} (f : Dock → Dock × Reply)
    (h : Ready s l r) (hblock : s.performBlock l r = s.onDock f) {k : Dock} {reply : Reply}
    (hf : f s.dock = (k, reply)) : exec (commandOf l tag r) s = .next ((s.on k).answered l tag r reply) :=
  exec_of_ready h (by rw [hblock, State.onDock, hf]; rfl)

/-- R201: a request that one of checks 3 to 5 refuses. -/
theorem exec_of_linkRefusal {s : State} {l : Link} (tag : Byte) {r : Request} {st : Status}
    (hlive : s.inReset = false) (hplace : (s.linkEnd l).places.length < 2) (hfits : requestFits r = true)
    (h : s.linkRefusal l r = some st) :
    exec (commandOf l tag r) s = .next (s.answered l tag r { status := st }) := by
  rw [exec_commandOf]
  exact State.request_of_place tag hlive hplace hfits (by
    simp only [State.perform, State.linkRefusal_modLink, h]; rfl)

/-- Settles O3: each clause's premises choose the branch of LI's checks that refuses. -/
theorem linkChecksRefuse : Obligations.LinkChecksRefuse := by
  intro s l tag r hlive hplace hfits
  refine ⟨fun hdone hbefore => ?_, fun hdone hl hrole => ?_, fun hdone hrole hhold => ?_⟩
  · exact exec_of_linkRefusal tag hlive hplace hfits (by simp [State.linkRefusal, hdone, hbefore])
  · have hpast : ¬ (s.dock.commissioning.done = false ∧ beforeCommissioning r = false) := by
      rcases hdone with h | h <;> simp [h]
    exact exec_of_linkRefusal tag hlive hplace hfits (by simp [State.linkRefusal, hpast, hl, hrole])
  · have hpast : ¬ (s.dock.commissioning.done = false ∧ beforeCommissioning r = false) := by
      rcases hdone with h | h <;> simp [h]
    have hpermitted : ¬ (l = .floor ∧ supervisorOnly r = true) := by
      rcases hrole with h | h <;> simp [h]
    exact exec_of_linkRefusal tag hlive hplace hfits (by simp [State.linkRefusal, hpast, hpermitted, hhold])

/-- Settles O5: with both places taken `receive` looks at the waiting OVERRUN replies alone. -/
theorem overrunNotPerformed : Obligations.OverrunNotPerformed := by
  intro s l tag r hlive hplaces hfits
  have hfull : ¬ (s.linkEnd l).places.length < Config.bufferPlaces := Nat.not_lt.mpr hplaces
  refine ⟨fun hoverruns => ?_, fun hoverruns => ?_⟩
  · have hroom : s.overruns l < Config.bufferPlaces := hoverruns
    rw [exec_commandOf]
    simp [State.request, State.live, hlive, State.receive, hfull, hroom, receivedRequest, hfits, receivedCode,
      Status.code]
  · have hroom : ¬ s.overruns l < Config.bufferPlaces := Nat.not_lt.mpr hoverruns
    rw [exec_commandOf]
    simp [State.request, State.live, hlive, State.receive, hfull, hroom]

/-- Settles O6: checks 1 and 2 are judged from the code and the body, and their refusals change nothing. -/
theorem unknownRequestAnswered : Obligations.UnknownRequestAnswered := by
  intro s l tag code body hlive hplace
  have hroom : (s.linkEnd l).places.length < Config.bufferPlaces := hplace
  refine ⟨fun hcode => ?_, fun hcode hbody => ?_⟩
  · have hjudge : judge code body = .unknownCode code := by simp [judge, hcode]
    simp [exec, execUnknownRequest, State.live, hlive, State.receive, hroom, hjudge, State.perform, refuse,
      receivedCode, Status.code]
  · have hjudge : judge code body = .badLength code := by simp [judge, hcode, hbody]
    simp [exec, execUnknownRequest, State.live, hlive, State.receive, hroom, hjudge, State.perform, refuse,
      receivedCode, Status.code]

/-! ### Refusals (R200) -/

/-- A block's answer of the dock's records that is neither OK nor PENDING comes with the same records. -/
theorem Dock.Answers.unchanged {k : Dock} {a : Dock × Reply} (h : k.Answers a) (hok : a.2.status ≠ .ok)
    (hpending : a.2.status ≠ .pending) : a.1 = k := by
  cases h with
  | refused => rfl
  | accepted => exact absurd rfl hok
  | postponed => exact absurd rfl hpending

theorem Hold.take_status (h : Hold) (l : Link) : (h.take l).2 = .ok ∨ (h.take l).2 = .pending := by
  unfold Hold.take
  split
  · exact .inl rfl
  · split
    · exact .inl rfl
    · exact .inr rfl

/-- Settles O4: a block on the dock's records by the inversion of its answers, and the others by the branches that
refuse. -/
theorem refusedRequestChangesNothing : Obligations.RefusedRequestChangesNothing := by
  intro s l r
  cases hr : beyondDock r with
  | false =>
    obtain ⟨f, hf, hanswers⟩ := performBlock_onDock l r hr
    rw [hf]
    intro hok hpending
    have hsame : (f s.dock).1 = s.dock := (hanswers s.dock).unchanged hok hpending
    simp [State.onDock, hsame]
  | true =>
    cases r with
    | takeHold d force =>
      simp only [State.performBlock, State.takeHold]
      split
      · intros; rfl
      · split
        · intros; rfl
        · split
          · intro hok; exact absurd rfl hok
          · intro hok hpending
            rcases Hold.take_status _ l with h | h
            · exact absurd h hok
            · exact absurd h hpending
    | dropHold d =>
      simp only [State.performBlock, State.dropHold]
      split
      · intros; rfl
      · split
        · intros; rfl
        · intro hok; exact absurd rfl hok
    | putNote text =>
      simp only [State.performBlock, State.putNote]
      split
      · intros; rfl
      · split
        · intros; rfl
        · intro hok; exact absurd rfl hok
    | takeNote =>
      simp only [State.performBlock, State.takeNote]
      split <;> (intro hok; exact absurd rfl hok)
    | readHolds | status | restart => intro hok; exact absurd rfl hok
    | _ => cases hr

/-! ### What a command can do -/

/-- The outcomes that a command can have: a request received, a byte, a gap, a frame taken or sent, an event on the
dock's records that keeps the invariants, a poll, a reply or its absence, and the two ends of power-on reset. -/
inductive Does (s : State) : Result → Prop
  | received (l : Link) (tag : Byte) (rcv : Received) : Does s (.next (s.live (·.receive l tag rcv)))
  | framed (l : Link) : Does s (.next (s.live (·.takeFrame l)))
  | gapped (l : Link) : Does s (.next (s.live (·.gapTimeout l)))
  | sent (l : Link) : Does s (.next (s.live (·.finishFrame l)))
  | assembled (l : Link) (b : Byte) (stop : Bool) : Does s (.next (s.live (·.takeByte l b stop)))
  | acted (line : Bool) (f : Dock → Dock) (hf : ∀ k : Dock, k.Keeps (f k)) :
      Does s (({ s with plantLine := line } : State).event f)
  | polled : Does s (.next (s.live State.sendPoll))
  | replied (bytes : List Byte) (inWindow : Bool) : Does s (.next (s.live (·.takeReply bytes inWindow)))
  | missed : Does s (.next (s.live State.missReply))
  | poweredOn : Does s (.next s.powerOn)
  | released : Does s (.next s.endReset)

/-- An event on the dock's records leaves the plant-stop line's level. -/
theorem Does.event {s : State} (f : Dock → Dock) (hf : ∀ k : Dock, k.Keeps (f k)) : Does s (s.event f) :=
  .acted s.plantLine f hf

open Dock in
theorem exec_does (i : Instr) (s : State) : Does s (exec i s) := by
  cases i with
  | frameComplete l => exact .framed l
  | interByteGapTimeout l => exact .gapped l
  | frameSent l => exact .sent l
  | byteReceived l b stop => exact .assembled l b stop
  | powerOnReset => exact .poweredOn
  | resetLineRelease => exact .released
  | plantStopAssertion => exact .acted true Dock.assertStop (fun _ => Keeps.refl.assertStop)
  | plantStopRelease => exact .acted false Dock.releaseStop (fun _ => Keeps.refl.releaseStop)
  | runningSecondsTick => exact .event Dock.tick (fun _ => Keeps.refl.tick)
  | poll => exact .polled
  | nodeReply bytes inWindow => exact .replied bytes inWindow
  | replyWindowExpiry => exact .missed
  | stalenessTimerExpiry p => exact .event (·.stalenessExpiry p) (fun _ => Keeps.refl.stalenessExpiry p)
  | refreshTimerExpiry z => exact .event (·.refreshExpiry z) (fun _ => Keeps.refl.refreshExpiry z)
  | warmDelayExpiry z => exact .event (·.warmExpiry z) (fun _ => Keeps.refl.warmExpiry z)
  | coldDelayExpiry z => exact .event (·.coldExpiry z) (fun _ => Keeps.refl.coldExpiry z)
  | allowanceTimerExpiry r => exact .event (·.allowanceExpiry r) (fun _ => Keeps.refl.allowanceExpiry r)
  | inflateTimerExpiry d => exact .event (·.inflateExpiry d) (fun _ => Keeps.refl.inflateExpiry d)
  | deflateTimerExpiry d => exact .event (·.deflateExpiry d) (fun _ => Keeps.refl.deflateExpiry d)
  | travelTimerExpiry d => exact .event (·.travelExpiry d) (fun _ => Keeps.refl.travelExpiry d)
  | recloseTimerExpiry d => exact .event (·.recloseExpiry d) (fun _ => Keeps.refl.recloseExpiry d)
  | closeWaitExpiry d => exact .event (·.closeWaitExpiry d) (fun _ => Keeps.refl.closeWaitExpiry d)
  | leakGraceExpiry d => exact .event (·.leakExpiry d) (fun _ => Keeps.refl.leakExpiry d)
  | intervalTimerExpiry z => exact .event (·.intervalExpiry z) (fun _ => Keeps.refl.intervalExpiry z)
  | deferralTimerExpiry z => exact .event (·.deferralExpiry z) (fun _ => Keeps.refl.deferralExpiry z)
  | durationTimerExpiry z => exact .event (·.durationExpiry z) (fun _ => Keeps.refl.durationExpiry z)
  | dripTimerExpiry z => exact .event (·.dripExpiry z) (fun _ => Keeps.refl.dripExpiry z)
  | recoveryTimerExpiry z => exact .event (·.recoveryExpiry z) (fun _ => Keeps.refl.recoveryExpiry z)
  | mismatchTimerExpiry c => exact .event (·.mismatchExpiry c) (fun _ => Keeps.refl.mismatchExpiry c)
  | _ => exact .received _ _ _

/-- A property of states that does not look at the queue of commands passes through a step when every outcome of a
command keeps it. -/
theorem step_keeps {P : State → Prop} (hqueue : ∀ (s : State) (q : List Instr), P s → P { s with pending := q })
    (hdoes : ∀ (s : State) (o : Result), P s → Does s o → ∀ t, o = .next t → P t) {s t : State} (h : P s)
    (hstep : step s = .next t) : P t := by
  unfold step at hstep
  split at hstep
  · cases hstep; exact h
  · exact hdoes _ _ (hqueue s _ h) (exec_does _ _) t hstep

/-! ### What a step does to the dock's records -/

open Dock in
theorem startLink_keeps (s : State) (l : Link) : s.dock.Keeps (s.startLink l).dock := by
  unfold State.startLink
  split
  · exact .refl
  · split
    · rw [State.modLink_dock]; exact .refl
    · split
      next n rest hqueue =>
        rw [State.modLink_dock]
        refine ⟨(·.congr (by simp) (by simp) (by simp) (by simp)), (·.congr (by simp) (by simp)),
          (·.congr (by simp)), (·.congr (by simp)), fun hq l' => ?_⟩
        have hrest : rest.length ≤ 32 := by
          have := hq l; rw [hqueue, List.length_cons] at this; omega
        cases l <;> cases l'
        · exact hrest
        · exact hq .floor
        · exact hq .site
        · exact hrest
      · exact .refl

theorem settle_keeps (s : State) : s.dock.Keeps s.settle.dock :=
  (startLink_keeps s .site).trans (startLink_keeps _ .floor)

theorem live_keeps {s : State} {f : State → State} (hf : s.dock.Keeps (f s).dock) : s.dock.Keeps (s.live f).dock := by
  unfold State.live
  split
  · exact .refl
  · exact hf.trans (settle_keeps _)

open Dock in
theorem performBlock_keeps (s : State) (l : Link) (r : Request) : s.dock.Keeps (s.performBlock l r).1.dock := by
  cases hr : beyondDock r with
  | false =>
    obtain ⟨f, hf, hanswers⟩ := performBlock_onDock l r hr
    rw [hf]
    have hanswer := hanswers s.dock
    simp only [State.onDock]
    generalize f s.dock = a at hanswer
    cases hanswer with
    | refused => exact .refl
    | accepted h => exact h
    | postponed h => exact h
  | true =>
    cases r with
    | takeHold d force =>
      simp only [State.performBlock, State.takeHold]
      split
      · exact .refl
      · split
        · exact .refl
        · split
          · simp only [State.forceHold, accept]
            split
            · exact .refl
            · simp only [State.notifyLink_dock, State.modHold_dock]
              exact Keeps.refl.notifyLink _ _
          · exact .refl
    | dropHold d =>
      simp only [State.performBlock, State.dropHold]
      split
      · exact .refl
      · split
        · exact .refl
        · simp only [State.passNotice, accept]
          split
          · split
            · exact Keeps.refl.notifyLink _ _
            · exact .refl
          · exact .refl
    | putNote text =>
      simp only [State.performBlock, State.putNote]
      split
      · exact .refl
      · split
        · exact .refl
        · simp only [accept, State.notifyLink_dock, State.setNoteTo_dock]
          exact Keeps.refl.notifyLink _ _
    | takeNote =>
      simp only [State.performBlock, State.takeNote]
      split
      · exact .refl
      · simp only [accept, State.notifyLink_dock, State.setNoteTo_dock]
        exact Keeps.refl.notifyLink _ _
    | readHolds => exact .refl
    | status => exact Keeps.refl.noticeWrite l ({ · with dropped := false }) (fun _ h => h)
    | restart => exact Keeps.refl.closeInterval.restartBlocks.restartNotices
    | _ => cases hr

theorem perform_keeps (s : State) (l : Link) (rcv : Received) : s.dock.Keeps (s.perform l rcv).1.dock := by
  unfold State.perform
  split
  · exact .refl
  · exact .refl
  · split
    · exact .refl
    · exact performBlock_keeps s l _

theorem receive_keeps (s : State) (l : Link) (tag : Byte) (rcv : Received) :
    s.dock.Keeps (s.receive l tag rcv).dock := by
  simp only [State.receive, State.makeReady]
  split
  · rw [State.modLink_dock]
    have h := perform_keeps (s.modLink l (·.take { tag := tag, received := rcv })) l rcv
    rw [State.modLink_dock] at h
    exact h
  · split
    · rw [State.modLink_dock]; exact .refl
    · exact .refl

theorem takeFrame_keeps (s : State) (l : Link) : s.dock.Keeps (s.takeFrame l).dock := by
  unfold State.takeFrame
  split
  · exact .refl
  · split
    · have hhunt (f : LinkEnd → LinkEnd) : s.dock.Keeps (s.modLink l f).dock := by
        rw [State.modLink_dock]; exact .refl
      dsimp only
      split
      · exact (hhunt _).trans (receive_keeps _ _ _ _)
      · exact hhunt _
    · rw [State.modLink_dock]; exact .refl

/-- R213, and everything else: a step keeps the invariants of the dock, or leaves the power-on records. -/
theorem does_keeps {s t : State} {o : Result} (h : Does s o) (ho : o = .next t) :
    s.dock.Keeps t.dock ∨ t.dock = Dock.reset := by
  have hlink (l : Link) (f : LinkEnd → LinkEnd) : s.dock.Keeps (s.modLink l f).dock := by
    rw [State.modLink_dock]; exact .refl
  cases h with
  | received l tag rcv => cases ho; exact .inl (live_keeps (receive_keeps s l tag rcv))
  | framed l => cases ho; exact .inl (live_keeps (takeFrame_keeps s l))
  | gapped l => cases ho; exact .inl (live_keeps (hlink l _))
  | sent l => cases ho; exact .inl (live_keeps (hlink l _))
  | assembled l b stop => cases ho; exact .inl (live_keeps (hlink l _))
  | acted line f hf =>
    cases ho; exact .inl (live_keeps (s := { s with plantLine := line }) (hf s.dock))
  | polled =>
    cases ho
    refine .inl (live_keeps ?_)
    unfold State.sendPoll
    split <;> exact .refl
  | replied bytes inWindow =>
    cases ho
    refine .inl (live_keeps ?_)
    simp only [State.takeReply]
    split
    · exact .refl
    · split
      · exact Dock.Keeps.refl.goodReply _ _
      · exact Dock.Keeps.refl.missedReply _
  | missed =>
    cases ho
    refine .inl (live_keeps ?_)
    unfold State.missReply
    split
    · exact .refl
    · exact Dock.Keeps.refl.missedReply _
  | poweredOn => cases ho; exact .inr rfl
  | released =>
    cases ho
    unfold State.endReset
    split
    · have hk : s.dock.Keeps
          (if s.plantLine = true then (s.dock.setPlantStop true).raise .plantStop .site else s.dock) :=
        Dock.Keeps.ite _ (fun _ => (Dock.Keeps.refl.setPlantStop true).raise _ _ (by decide)) (fun _ => .refl)
      exact .inl (hk.trans (settle_keeps { s with inReset := false, dock := _ }))
    · exact .inl .refl

/-- An invariant of the dock that `Dock.Keeps` carries and that the power-on records satisfy is kept by a step. -/
theorem step_keeps_dock {P : Dock → Prop} (hkeeps : ∀ k k' : Dock, k.Keeps k' → P k → P k') (hreset : P Dock.reset)
    {s t : State} (h : P s.dock) (hstep : step s = .next t) : P t.dock := by
  refine step_keeps (P := fun s => P s.dock) (fun _ _ h => h) (fun s o h hdoes t ho => ?_) h hstep
  rcases does_keeps hdoes ho with hk | hr
  · exact hkeeps _ _ hk h
  · rw [hr]; exact hreset

end Sys2Proof.Machine

/-! PROOFS. The invariants of the part: what the power-on records satisfy and what every step keeps. The dock's
invariants come from `Dock.Keeps`; the hold table and the link ends have their own rules here. -/

namespace Sys2Proof.Machine

/-! ### The power-on records -/

theorem alarmsOk_reset : AlarmsOk Dock.reset where
  room := Nat.zero_le _
  single := List.nodup_nil
  ordinary := by simp [Dock.reset]
  reserved := by simp [Dock.reset]
  line := by decide

theorem channelsOk_reset : ChannelsOk Dock.reset := by
  intro c
  simp only [Dock.reset, Fin.getElem_fin, Vector.getElem_ofFn, resetChannel, effectiveLevel, channelKind]
  revert c; decide

theorem gatesOk_reset : GatesOk Dock.reset := by
  intro z
  simp only [Dock.reset, Fin.getElem_fin, Vector.getElem_replicate]
  rfl

theorem palletsOk_reset : PalletsOk Dock.reset := by constructor <;> simp [Dock.reset]

theorem queuesOk_reset : QueuesOk Dock.reset := fun l => by cases l <;> exact Nat.zero_le _

theorem linksOk_reset : LinksOk State.reset := by
  have hfresh : LinkEndOk {} := ⟨Nat.zero_le _, Nat.zero_le _, trivial⟩
  exact ⟨hfresh, hfresh⟩

theorem holdTableOk_reset : HoldTableOk State.reset where
  holds d l h := by simp [State.reset] at h
  toFloor text h := by simp [State.reset] at h
  toSite text h := by simp [State.reset] at h

/-- Settles O60. -/
theorem invariantsHoldAtReset : Obligations.InvariantsHoldAtReset :=
  ⟨holdTableOk_reset, linksOk_reset, queuesOk_reset, alarmsOk_reset, channelsOk_reset, gatesOk_reset, palletsOk_reset⟩

/-- Settles O1. -/
theorem stepTakesFrontCommand : Obligations.StepTakesFrontCommand :=
  ⟨fun _ _ _ => rfl, fun s h => by simp [step, h]⟩

/-! ### The alarm list, the output levels and the pallet table -/

/-- Settles O57: every operation on the dock's records keeps the alarm list (`Dock.Keeps`). -/
theorem alarmListKept : Obligations.AlarmListKept :=
  fun _ _ h hstep => step_keeps_dock (fun _ _ hk => hk.alarms) alarmsOk_reset h hstep

/-- Settles O58: a channel's level and a zone's gate are written only together with what they follow. -/
theorem outputLevelsKept : Obligations.OutputLevelsKept :=
  fun _ _ h hstep => step_keeps_dock (P := fun k => ChannelsOk k ∧ GatesOk k)
    (fun _ _ hk h => ⟨hk.channels h.1, hk.gates h.2⟩) ⟨channelsOk_reset, gatesOk_reset⟩ h hstep

/-- Settles O59: records enter in the lowest empty slot with a tag not yet used, and an accrual stays in range. -/
theorem palletTableKept : Obligations.PalletTableKept :=
  fun _ _ h hstep => step_keeps_dock (fun _ _ hk => hk.pallets) palletsOk_reset h hstep

theorem within_iff {lo hi v : Nat} : within lo hi v = true ↔ lo ≤ v ∧ v ≤ hi := by simp [within]

/-! ### The hold table and the notes (R163 to R174) -/

/-- The hold table and the two note slots. -/
def State.tables (s : State) := (s.holds, s.noteToFloor, s.noteToSite)

theorem HoldTableOk.of_tables {s t : State} (h : HoldTableOk s) (heq : t.tables = s.tables) : HoldTableOk t := by
  obtain ⟨hholds, hfloor, hsite⟩ : t.holds = s.holds ∧ t.noteToFloor = s.noteToFloor ∧ t.noteToSite = s.noteToSite := by
    simpa [State.tables] using heq
  exact ⟨hholds ▸ h.holds, hfloor ▸ h.toFloor, hsite ▸ h.toSite⟩

theorem Hold.coherent_of_not_pending {h : Hold} (hnone : h.pending = none) : h.coherent := by
  intro l hl; rw [hnone] at hl; cases hl

theorem Hold.take_coherent {h : Hold} (hok : h.coherent) (l : Link) : (h.take l).1.coherent := by
  unfold Hold.take
  split
  next => exact Hold.coherent_of_not_pending rfl
  next hheld =>
    split
    next => exact hok
    next hother =>
      intro l' hl'
      obtain rfl : l = l' := by simpa using hl'
      show h.holder = some (otherLink l)
      cases hholder : h.holder with
      | none => exact absurd hholder hheld
      | some holder => cases holder <;> cases l <;> simp_all [otherLink]

theorem Hold.drop_coherent {h h' : Hold} {l : Link} (hdrop : h.drop l = some h') : h'.coherent := by
  unfold Hold.drop at hdrop
  split at hdrop
  · cases hdrop; exact Hold.coherent_of_not_pending rfl
  · split at hdrop
    · cases hdrop; exact Hold.coherent_of_not_pending rfl
    · cases hdrop

namespace State

variable {s : State} (l : Link)

theorem modLink_tables (f : LinkEnd → LinkEnd) : (s.modLink l f).tables = s.tables := by cases l <;> rfl

theorem startLink_tables : (s.startLink l).tables = s.tables := by
  unfold startLink
  split
  · rfl
  · split
    · exact modLink_tables l _
    · split
      · rw [modLink_tables]; rfl
      · rfl

theorem settle_tables : s.settle.tables = s.tables := by rw [settle, startLink_tables, startLink_tables]

end State

theorem HoldTableOk.modHold {s : State} (h : HoldTableOk s) (d : Fin 16) {x : Hold} (hx : x.coherent) :
    HoldTableOk (s.modHold d (fun _ => x)) where
  holds y := by
    rw [State.modHold_holds, tmod_get]
    split
    · exact hx
    · exact h.holds y
  toFloor := h.toFloor
  toSite := h.toSite

theorem HoldTableOk.setNoteTo {s : State} (h : HoldTableOk s) (l : Link) {note : Option (List Byte)}
    (hnote : noteOk note) : HoldTableOk (s.setNoteTo l note) := by
  cases l
  · exact ⟨h.holds, h.toFloor, hnote⟩
  · exact ⟨h.holds, hnote, h.toSite⟩

theorem HoldTableOk.notifyLink {s : State} (h : HoldTableOk s) (l : Link) (n : Notice) :
    HoldTableOk (s.notifyLink l n) := h.of_tables rfl

theorem HoldTableOk.forceHold {s : State} (h : HoldTableOk s) (d : Fin 16) : HoldTableOk (s.forceHold d) := by
  have hforced : HoldTableOk (s.modHold d (fun _ => Hold.forced)) := h.modHold d (Hold.coherent_of_not_pending rfl)
  unfold State.forceHold
  split
  · exact hforced
  · exact hforced.notifyLink _ _

theorem HoldTableOk.passNotice {s : State} (h : HoldTableOk s) (d : Fin 16) (before after : Hold) (l : Link) :
    HoldTableOk (s.passNotice d before after l) := by
  unfold State.passNotice
  split
  · split
    · exact h.notifyLink _ _
    · exact h
  · exact h

theorem HoldTableOk.live {s : State} {f : State → State} (h : HoldTableOk s) (hf : HoldTableOk (f s)) :
    HoldTableOk (s.live f) := by
  unfold State.live
  split
  · exact h
  · exact hf.of_tables State.settle_tables

theorem HoldTableOk.performBlock {s : State} (h : HoldTableOk s) (l : Link) (r : Request) :
    HoldTableOk (s.performBlock l r).1 := by
  cases hr : beyondDock r with
  | false =>
    obtain ⟨f, hf, -⟩ := performBlock_onDock l r hr
    rw [hf]
    exact h.of_tables rfl
  | true =>
    cases r with
    | takeHold d force =>
      simp only [State.performBlock, State.takeHold]
      split
      · exact h
      · split
        · exact h
        next d' _ =>
          split
          · exact h.forceHold d'
          · exact h.modHold d' (Hold.take_coherent (h.holds d') l)
    | dropHold d =>
      simp only [State.performBlock, State.dropHold]
      split
      · exact h
      next d' _ =>
        split
        · exact h
        next x hdrop => exact (h.modHold d' (Hold.drop_coherent hdrop)).passNotice _ _ _ _
    | putNote text =>
      simp only [State.performBlock, State.putNote]
      split
      · exact h
      next hlen =>
        split
        · exact h
        · refine (h.setNoteTo _ fun text' htext => ?_).notifyLink _ _
          obtain rfl : text = text' := by simpa using htext
          exact within_iff.mp (Bool.eq_true_of_not_eq_false hlen)
    | takeNote =>
      simp only [State.performBlock, State.takeNote]
      split
      · exact h
      · exact (h.setNoteTo _ (by intro _ hnone; cases hnone)).notifyLink _ _
    | readHolds => exact h
    | status => exact h.of_tables rfl
    | restart =>
      exact ⟨holdTableOk_reset.holds, holdTableOk_reset.toFloor, holdTableOk_reset.toSite⟩
    | _ => cases hr

theorem HoldTableOk.modLink {s : State} (h : HoldTableOk s) (l : Link) (f : LinkEnd → LinkEnd) :
    HoldTableOk (s.modLink l f) := h.of_tables (State.modLink_tables l f)

theorem HoldTableOk.perform {s : State} (h : HoldTableOk s) (l : Link) (rcv : Received) :
    HoldTableOk (s.perform l rcv).1 := by
  unfold State.perform
  split
  · exact h
  · exact h
  · split
    · exact h
    · exact h.performBlock l _

theorem HoldTableOk.receive {s : State} (h : HoldTableOk s) (l : Link) (tag : Byte) (rcv : Received) :
    HoldTableOk (s.receive l tag rcv) := by
  simp only [State.receive, State.makeReady]
  split
  · exact ((h.modLink l _).perform l rcv).modLink l _
  · split
    · exact h.modLink l _
    · exact h

theorem HoldTableOk.takeFrame {s : State} (h : HoldTableOk s) (l : Link) : HoldTableOk (s.takeFrame l) := by
  unfold State.takeFrame
  split
  · exact h
  · split
    · dsimp only
      split
      · exact (h.modLink l _).receive l _ _
      · exact h.modLink l _
    · exact h.modLink l _

theorem HoldTableOk.endReset {s : State} (h : HoldTableOk s) : HoldTableOk s.endReset := by
  unfold State.endReset
  split
  · refine HoldTableOk.of_tables ?_ State.settle_tables
    exact h.of_tables rfl
  · exact h

/-- Settles O55: a hold changes by the tables of TAKE_HOLD and DROP_HOLD alone, a note by PUT_NOTE and TAKE_NOTE. -/
theorem holdTableKept : Obligations.HoldTableKept := by
  intro s t h hstep
  refine step_keeps (fun s q h => h.of_tables rfl) (fun s o h hdoes t ho => ?_) h hstep
  cases hdoes with
  | received l tag rcv => cases ho; exact h.live (h.receive l tag rcv)
  | framed l => cases ho; exact h.live (h.takeFrame l)
  | gapped l => cases ho; exact h.live (h.modLink l _)
  | sent l => cases ho; exact h.live (h.modLink l _)
  | assembled l b stop => cases ho; exact h.live (h.modLink l _)
  | acted line f hf =>
    cases ho
    have hline : HoldTableOk { s with plantLine := line } := h.of_tables rfl
    exact hline.live (hline.of_tables rfl)
  | polled =>
    cases ho
    refine h.live ?_
    unfold State.sendPoll
    split
    · exact h.of_tables rfl
    · exact h
  | replied bytes inWindow =>
    cases ho
    refine h.live ?_
    unfold State.takeReply
    split
    · exact h
    · exact h.of_tables rfl
  | missed =>
    cases ho
    refine h.live ?_
    unfold State.missReply
    split
    · exact h
    · exact h.of_tables rfl
  | poweredOn => cases ho; exact holdTableOk_reset.of_tables rfl
  | released => cases ho; exact h.endReset

/-! ### The link ends (R195 to R198) -/

theorem linksOk_iff {s : State} : LinksOk s ↔ ∀ l, LinkEndOk (s.linkEnd l) :=
  ⟨fun h l => by cases l; exacts [h.site, h.floor], fun h => ⟨h .site, h .floor⟩⟩

theorem LinksOk.linkEnd {s : State} (h : LinksOk s) (l : Link) : LinkEndOk (s.linkEnd l) := linksOk_iff.mp h l

theorem LinksOk.modLink {s : State} (h : LinksOk s) (l : Link) {f : LinkEnd → LinkEnd}
    (hf : LinkEndOk (f (s.linkEnd l))) : LinksOk (s.modLink l f) := by
  cases l
  · exact ⟨hf, h.floor⟩
  · exact ⟨h.site, hf⟩

theorem LinksOk.of_ends {s t : State} (h : LinksOk s) (hsite : t.site = s.site) (hfloor : t.floor = s.floor) :
    LinksOk t := ⟨hsite ▸ h.site, hfloor ▸ h.floor⟩

/-- R196: what the hunt leaves begins with a start byte, and with a length of at least 5 when it has one. -/
theorem receiverOk_hunt (bytes : List Byte) : receiverOk (hunt bytes) := by
  induction bytes with
  | nil => exact trivial
  | cons b rest ih =>
    unfold hunt
    split
    next hstart =>
      split
      next => exact hstart
      next len tail =>
        split
        next => exact ih
        next hlen => exact ⟨hstart, Nat.not_lt.mp hlen⟩
    next => exact ih

/-- R196: a whole frame begins as the bytes from which it was cut. -/
theorem receiverOk_dropAssembly {bytes : List Byte} (h : receiverOk bytes) : receiverOk (dropAssembly bytes) := by
  unfold dropAssembly
  split
  next frame rest hframe =>
    match bytes, h, hframe with
    | start :: len :: tail, h, hframe =>
      simp only [completeFrame] at hframe
      split at hframe
      · cases hframe; exact h
      · cases hframe
  next => exact trivial

/-- R196: bytes behind a whole frame do not change how it begins. -/
theorem receiverOk_append {bytes : List Byte} (h : receiverOk bytes) (more : List Byte)
    (hcomplete : (completeFrame bytes).isSome = true) : receiverOk (bytes ++ more) := by
  match bytes, h, hcomplete with
  | _ :: _ :: _, h, _ => exact h

namespace LinkEndOk

variable {e : LinkEnd} (h : LinkEndOk e)
include h

theorem setReceiver {bytes : List Byte} (hbytes : receiverOk bytes) : LinkEndOk { e with receiver := bytes } :=
  ⟨h.places, h.overruns, hbytes⟩

theorem take (hroom : e.places.length < 2) (p : Place) : LinkEndOk { e with places := e.places ++ [p] } :=
  ⟨by simp only [List.length_append, List.length_singleton]; omega, h.overruns, h.receiver⟩

theorem addReply {r : ReadyReply} (hroom : r.overrun = true → (e.replies.filter (·.overrun)).length < 2) :
    LinkEndOk { e with replies := e.replies ++ [r] } := by
  refine ⟨h.places, ?_, h.receiver⟩
  have hnow := h.overruns
  cases hr : r.overrun with
  | true =>
    have := hroom hr
    simp only [List.filter_append, List.filter_cons, List.filter_nil, hr, if_true, List.length_append,
      List.length_singleton]
    omega
  | false => simpa [hr] using hnow

theorem sendReply {r : ReadyReply} {rest : List ReadyReply} (hreplies : e.replies = r :: rest) (f : Option Sending) :
    LinkEndOk { e with replies := rest, sending := f } := by
  refine ⟨h.places, ?_, h.receiver⟩
  have hnow := h.overruns
  rw [hreplies, List.filter_cons] at hnow
  split at hnow
  · rw [List.length_cons] at hnow; exact Nat.le_of_succ_le hnow
  · exact hnow

theorem setSending (f : Option Sending) : LinkEndOk { e with sending := f } := ⟨h.places, h.overruns, h.receiver⟩

theorem freePlace (f : Option Sending) : LinkEndOk { e with sending := f, places := e.places.tail } :=
  ⟨by have := h.places; simp only [List.length_tail]; omega, h.overruns, h.receiver⟩

theorem restart : LinkEndOk e.restart := by
  refine ⟨h.places, ?_, trivial⟩
  simp [LinkEnd.restart, List.filter_filter]

end LinkEndOk

namespace LinksOk

variable {s : State} (h : LinksOk s)
include h

theorem startLink (l : Link) : LinksOk (s.startLink l) := by
  unfold State.startLink
  split
  · exact h
  · split
    next r rest hreplies => exact h.modLink l ((h.linkEnd l).sendReply hreplies _)
    next =>
      split
      next n rest _ =>
        have hnotices : LinksOk { s with dock := s.dock.modNoticeEnd l ({ · with queue := rest }) } := h.of_ends rfl rfl
        exact hnotices.modLink l ((hnotices.linkEnd l).setSending _)
      next => exact h

theorem settle : LinksOk s.settle := (h.startLink .site).startLink .floor

theorem live {f : State → State} (hf : LinksOk (f s)) : LinksOk (s.live f) := by
  unfold State.live
  split
  · exact h
  · exact hf.settle

theorem makeReady (l : Link) {r : ReadyReply} (hroom : r.overrun = true → s.overruns l < 2) :
    LinksOk (s.makeReady l r) := h.modLink l ((h.linkEnd l).addReply hroom)

theorem performBlock (l : Link) (r : Request) : LinksOk (s.performBlock l r).1 := by
  cases hr : beyondDock r with
  | false =>
    obtain ⟨f, hf, -⟩ := performBlock_onDock l r hr
    rw [hf]
    exact h.of_ends rfl rfl
  | true =>
    cases r with
    | takeHold d force =>
      simp only [State.performBlock, State.takeHold]
      split
      · exact h
      · split
        · exact h
        · split
          · simp only [accept, State.forceHold]
            split <;> exact h.of_ends rfl rfl
          · exact h.of_ends rfl rfl
    | dropHold d =>
      simp only [State.performBlock, State.dropHold]
      split
      · exact h
      · split
        · exact h
        · simp only [accept, State.passNotice]
          split
          · split <;> exact h.of_ends rfl rfl
          · exact h.of_ends rfl rfl
    | putNote text =>
      simp only [State.performBlock, State.putNote]
      split
      · exact h
      · split
        · exact h
        · exact h.of_ends (by simp [accept]) (by simp [accept])
    | takeNote =>
      simp only [State.performBlock, State.takeNote]
      split
      · exact h
      · exact h.of_ends (by simp [accept]) (by simp [accept])
    | readHolds => exact h
    | status => exact h.of_ends rfl rfl
    | restart => exact ⟨h.site.restart, h.floor.restart⟩
    | _ => cases hr

theorem perform (l : Link) (rcv : Received) : LinksOk (s.perform l rcv).1 := by
  unfold State.perform
  split
  · exact h
  · exact h
  · split
    · exact h
    · exact h.performBlock l _

theorem receive (l : Link) (tag : Byte) (rcv : Received) : LinksOk (s.receive l tag rcv) := by
  unfold State.receive
  split
  next hroom => exact ((h.modLink l ((h.linkEnd l).take hroom _)).perform l rcv).makeReady l (by simp)
  next =>
    split
    next hoverruns => exact h.makeReady l (fun _ => hoverruns)
    next => exact h

theorem setReceiver (l : Link) {f : LinkEnd → List Byte} (hbytes : receiverOk (f (s.linkEnd l))) :
    LinksOk (s.modLink l (fun e => { e with receiver := f e })) := h.modLink l ((h.linkEnd l).setReceiver hbytes)

theorem takeByte (l : Link) (b : Byte) (stop : Bool) : LinksOk (s.takeByte l b stop) := by
  refine h.setReceiver l ?_
  split
  · split
    next hcomplete => exact receiverOk_append (h.linkEnd l).receiver _ (by rw [hcomplete]; rfl)
    next => exact receiverOk_hunt _
  · exact receiverOk_dropAssembly (h.linkEnd l).receiver

theorem takeFrame (l : Link) : LinksOk (s.takeFrame l) := by
  unfold State.takeFrame
  split
  · exact h
  · split
    · dsimp only
      split
      · exact (h.setReceiver l (receiverOk_hunt _)).receive l _ _
      · exact h.setReceiver l (receiverOk_hunt _)
    · exact h.setReceiver l (receiverOk_hunt _)

theorem finishFrame (l : Link) : LinksOk (s.finishFrame l) := by
  refine h.modLink l ?_
  split
  · exact h.linkEnd l
  · exact (h.linkEnd l).freePlace none
  · exact (h.linkEnd l).setSending none

theorem endReset : LinksOk s.endReset := by
  unfold State.endReset
  split
  · exact settle (h.of_ends rfl rfl)
  · exact h

end LinksOk

theorem step_keeps_links {s t : State} (h : LinksOk s) (hstep : step s = .next t) : LinksOk t := by
  refine step_keeps (fun s q h => h.of_ends rfl rfl) (fun s o h hdoes t ho => ?_) h hstep
  cases hdoes with
  | received l tag rcv => cases ho; exact h.live (h.receive l tag rcv)
  | framed l => cases ho; exact h.live (h.takeFrame l)
  | gapped l => cases ho; exact h.live (h.setReceiver l (receiverOk_dropAssembly (h.linkEnd l).receiver))
  | sent l => cases ho; exact h.live (h.finishFrame l)
  | assembled l b stop => cases ho; exact h.live (h.takeByte l b stop)
  | acted line f hf =>
    cases ho
    have hline : LinksOk { s with plantLine := line } := h.of_ends rfl rfl
    exact hline.live (hline.of_ends rfl rfl)
  | polled =>
    cases ho
    refine h.live ?_
    unfold State.sendPoll
    split
    · exact h.of_ends rfl rfl
    · exact h
  | replied bytes inWindow =>
    cases ho
    refine h.live ?_
    unfold State.takeReply
    split
    · exact h
    · exact h.of_ends rfl rfl
  | missed =>
    cases ho
    refine h.live ?_
    unfold State.missReply
    split
    · exact h
    · exact h.of_ends rfl rfl
  | poweredOn => cases ho; exact linksOk_reset.of_ends rfl rfl
  | released => cases ho; exact h.endReset

/-- Settles O56: places and OVERRUN replies are taken only while there is room, receivers are left by the hunt, and
the notice queues are the dock's. -/
theorem linkBoundsKept : Obligations.LinkBoundsKept := fun _ _ ⟨hlinks, hqueues⟩ hstep =>
  ⟨step_keeps_links hlinks hstep, step_keeps_dock (fun _ _ hk => hk.queues) queuesOk_reset hqueues hstep⟩

end Sys2Proof.Machine

/-! PROOFS. Frames and bodies: every request is read back from its code and its body (R215 to R217), and a frame
received byte by byte is its request's command (R196, R197, R214). -/

namespace Sys2Proof.Machine

/-! ### Fields of several bytes (R216) -/

@[simp] theorem toHalf_extract (h : Half) : toHalf (h.extractLsb' 8 8) (h.extractLsb' 0 8) = h := by
  simp only [toHalf]
  ext i hi
  simp only [BitVec.getElem_append, BitVec.getElem_extractLsb']
  split <;> grind

@[simp] theorem toWord_extract (w : Word) :
    toWord (w.extractLsb' 24 8) (w.extractLsb' 16 8) (w.extractLsb' 8 8) (w.extractLsb' 0 8) = w := by
  simp only [toWord]
  ext i hi
  simp only [BitVec.getElem_append, BitVec.getElem_extractLsb']
  grind

theorem toNat_byteOf {n : Nat} (h : n < 256) : (byteOf n).toNat = n := by
  simp [byteOf, Nat.mod_eq_of_lt h]

/-! ### Lists of entries and of moves (R217) -/

theorem readEntries_entryBytes (es : List AdmitEntry) : readEntries es.length (es.flatMap entryBytes) = some es := by
  induction es with
  | nil => rfl
  | cons e es ih => simp [entryBytes, wordBytes, halfBytes, readEntries, ih]

theorem readMoves_rawMoveBytes (ms : List RawMove) : readMoves ms.length (ms.flatMap rawMoveBytes) = some ms := by
  induction ms with
  | nil => rfl
  | cons m ms ih => simp [rawMoveBytes, rawLocBytes, wordBytes, halfBytes, readMoves, ih]

/-! ### Bodies (R215, R217) -/

theorem codeKnown_requestCode (r : Request) : codeKnown (requestCode r) = true := by cases r <;> rfl

theorem readRequest_requestBody {r : Request} (hfits : requestFits r = true) :
    readRequest (requestCode r) (requestBody r) = some r := by
  cases r with
  | setZone a => simp [readRequest, requestCode, requestBody, readSetZone, halfBytes]
  | setClass a => simp [readRequest, requestCode, requestBody, readSetClass, halfBytes]
  | admitPallets a =>
    have hlen : a.entries.length < 256 := by simp [requestFits] at hfits; omega
    simp [readRequest, requestCode, requestBody, readAdmit, rawLocBytes, toNat_byteOf hlen, readEntries_entryBytes]
  | amendPallet a => simp [readRequest, requestCode, requestBody, readAmendPallet, halfBytes, wordBytes]
  | readPallet w | releasePallet w | setClock w =>
    simp [readRequest, requestCode, requestBody, readWord, wordBytes]
  | listPallets a => simp [readRequest, requestCode, requestBody, readListPallets, rawLocBytes, halfBytes]
  | postMoves a =>
    have hlen : a.moves.length < 256 := by simp [requestFits] at hfits; omega
    simp [readRequest, requestCode, requestBody, readPostMoves, toNat_byteOf hlen, readMoves_rawMoveBytes]
  | setDoor a => simp [readRequest, requestCode, requestBody, readSetDoor, halfBytes]
  | assignTrailer a => simp [readRequest, requestCode, requestBody, readAssignTrailer, wordBytes]
  | setDefrost a => simp [readRequest, requestCode, requestBody, readSetDefrost, halfBytes, wordBytes]
  | ackAlarm a => simp [readRequest, requestCode, requestBody, readAckAlarm, wordBytes]
  | putNote text =>
    have hlen : text.length < 256 := by simp [requestFits] at hfits; omega
    simp [readRequest, requestCode, requestBody, readPutNote, toNat_byteOf hlen]
  | setTerminal a => simp [readRequest, requestCode, requestBody, readThree, rawLocBytes]
  | commission a => simp [readRequest, requestCode, requestBody, readFour, halfBytes]
  | _ => rfl

/-- Settles O13: the fields of several bytes and the counted lists are put together as they were taken apart. -/
theorem requestBodyRoundTrip : Obligations.RequestBodyRoundTrip := by
  intro r hfits
  rw [judge, codeKnown_requestCode, if_pos rfl, readRequest_requestBody hfits]

/-! ### A request's frame (R214) -/

theorem requestBody_length {r : Request} (hfits : requestFits r = true) : (requestBody r).length ≤ 250 := by
  cases r with
  | admitPallets a =>
    have hlen : a.entries.length ≤ 30 := by simpa [requestFits] using hfits
    have hbytes : (a.entries.flatMap entryBytes).length = 8 * a.entries.length := by
      simp [entryBytes, wordBytes, halfBytes, List.length_flatMap, Nat.mul_comm]
    simp only [requestBody, rawLocBytes, List.length_append, List.length_cons, List.length_nil, hbytes]
    omega
  | postMoves a =>
    have hlen : a.moves.length ≤ 22 := by simpa [requestFits] using hfits
    have hbytes : (a.moves.flatMap rawMoveBytes).length = 11 * a.moves.length := by
      simp [rawMoveBytes, rawLocBytes, wordBytes, halfBytes, List.length_flatMap, Nat.mul_comm]
    simp only [requestBody, List.length_append, List.length_cons, List.length_nil, hbytes]
    omega
  | putNote text =>
    have hlen : text.length ≤ 249 := by simpa [requestFits] using hfits
    simp only [requestBody, List.length_cons]
    omega
  | _ => exact Nat.le_of_ble_eq_true rfl

/-- R214: the shape of a frame: start byte, length byte, and as many bytes as the length byte says. -/
theorem frameBytes_shape {kind code tag : Byte} {body : List Byte} (hlen : body.length ≤ 250) :
    ∃ len tail, frameBytes kind code tag body = Config.startByte :: len :: tail ∧ tail.length = len.toNat ∧
      5 ≤ len.toNat := by
  refine ⟨_, _, rfl, ?_, ?_⟩
  · rw [toNat_byteOf (by omega)]
    simp [crcBytes, halfBytes]
  · rw [toNat_byteOf (by omega)]
    omega

theorem frameChecked_frameBytes (kind code tag : Byte) (body : List Byte) :
    frameChecked (frameBytes kind code tag body) = some (frameInner kind code tag body) := by
  have hlen : (frameBytes kind code tag body).length - 2 =
      (Config.startByte :: frameInner kind code tag body).length := by
    simp [frameBytes, crcBytes, halfBytes]
  have hcut : frameBytes kind code tag body =
      (Config.startByte :: frameInner kind code tag body) ++ crcBytes (frameInner kind code tag body) := rfl
  unfold frameChecked
  rw [hlen, hcut, List.take_left, List.drop_left]
  simp

theorem completeFrame_whole {start len : Byte} {tail : List Byte} (h : tail.length = len.toNat) :
    completeFrame (start :: len :: tail) = some (start :: len :: tail, []) := by
  simp [completeFrame, ← h]

/-- R196: of a frame's proper beginnings none is complete, and the hunt keeps each as it grows. -/
theorem assembling_frame {len : Byte} {tail : List Byte} (htail : tail.length = len.toNat) (hlen : 5 ≤ len.toNat)
    {before after : List Byte} {b : Byte} (hframe : Config.startByte :: len :: tail = before ++ b :: after) :
    completeFrame before = none ∧ hunt (before ++ [b]) = before ++ [b] := by
  match before, hframe with
  | [], hframe =>
    obtain ⟨rfl, -⟩ := List.cons.inj hframe
    exact ⟨rfl, by simp [hunt]⟩
  | [x], hframe =>
    obtain ⟨rfl, hrest⟩ := List.cons.inj hframe
    obtain ⟨rfl, -⟩ := List.cons.inj hrest
    exact ⟨rfl, by simp [hunt, Nat.not_lt.mpr hlen]⟩
  | x :: y :: more, hframe =>
    obtain ⟨rfl, hrest⟩ := List.cons.inj hframe
    obtain ⟨rfl, rfl⟩ := List.cons.inj hrest
    have hshort : ¬ len.toNat ≤ more.length := by
      rw [← htail]; simp
    exact ⟨by simp [completeFrame, hshort], by simp [hunt, Nat.not_lt.mpr hlen]⟩

/-! ### The bytes of a frame, one after another (R196) -/

/-- The state with other bytes kept by a link's receiver. -/
def State.setReceiver (s : State) (l : Link) (bytes : List Byte) : State := s.modLink l ({ · with receiver := bytes })

namespace State

variable {s : State} {l : Link}

theorem receiver_setReceiver (bytes : List Byte) : ((s.setReceiver l bytes).linkEnd l).receiver = bytes := by
  cases l <;> rfl

theorem setReceiver_self : s.setReceiver l (s.linkEnd l).receiver = s := by cases l <;> rfl

theorem setReceiver_setReceiver (old new : List Byte) :
    (s.setReceiver l old).setReceiver l new = s.setReceiver l new := by
  cases l <;> rfl

theorem startLink_setReceiver (l' : Link) (bytes : List Byte) :
    (s.setReceiver l bytes).startLink l' = (s.startLink l').setReceiver l bytes := by
  have hsending : ((s.setReceiver l bytes).linkEnd l').sending = (s.linkEnd l').sending := by
    cases l <;> cases l' <;> rfl
  have hreplies : ((s.setReceiver l bytes).linkEnd l').replies = (s.linkEnd l').replies := by
    cases l <;> cases l' <;> rfl
  have hdock : (s.setReceiver l bytes).dock = s.dock := modLink_dock _ _
  unfold startLink
  rw [hsending, hreplies, hdock]
  split
  · rfl
  · split
    · cases l <;> cases l' <;> rfl
    · split
      · cases l <;> cases l' <;> rfl
      · rfl

theorem settle_setReceiver (bytes : List Byte) : (s.setReceiver l bytes).settle = s.settle.setReceiver l bytes := by
  rw [settle, startLink_setReceiver, startLink_setReceiver, settle]

end State

/-- R196: one byte of a frame that is being assembled, with nothing for a transmitter to begin. -/
theorem exec_byteReceived_assembling {s : State} {l : Link} {kept : List Byte} {b : Byte} (hlive : s.inReset = false)
    (hidle : s.settle = s) (hpart : completeFrame kept = none) (hgrows : hunt (kept ++ [b]) = kept ++ [b]) :
    exec (.byteReceived l b true) (s.setReceiver l kept) = .next (s.setReceiver l (kept ++ [b])) := by
  have htake : (s.setReceiver l kept).takeByte l b true = s.setReceiver l (kept ++ [b]) := by
    cases l <;> simp [State.takeByte, State.setReceiver, State.modLink, hpart, hgrows]
  have hlive' : (s.setReceiver l kept).inReset = false := by rw [← hlive]; exact State.modLink_inReset _ _
  show Host.Outcome.next _ = _
  rw [State.live, hlive', htake, State.settle_setReceiver, hidle]
  rfl

/-- R196: the bytes of a frame, received one after another behind those that the receiver keeps. -/
theorem performAll_bytes {s : State} {l : Link} {frame : List Byte} (hlive : s.inReset = false)
    (hidle : s.settle = s)
    (hpart : ∀ before b after, frame = before ++ b :: after →
      completeFrame before = none ∧ hunt (before ++ [b]) = before ++ [b])
    (more : List Instr) (bytes kept : List Byte) (hframe : frame = kept ++ bytes) :
    performAll (bytes.map (.byteReceived l · true) ++ more) (s.setReceiver l kept) =
      performAll more (s.setReceiver l frame) := by
  induction bytes generalizing kept with
  | nil => rw [hframe, List.append_nil]; rfl
  | cons b bytes ih =>
    obtain ⟨hnone, hgrows⟩ := hpart kept b bytes hframe
    simp only [List.map_cons, List.cons_append, performAll, exec_byteReceived_assembling hlive hidle hnone hgrows]
    exact ih (kept ++ [b]) (by rw [hframe, List.append_assoc]; rfl)

/-- Settles O14: the receiver assembles the frame byte by byte, and its completion is judged as the request. -/
theorem frameReceivedWhole : Obligations.FrameReceivedWhole := by
  intro s l tag r hfits hlive hreceiver hidle
  obtain ⟨len, tail, hframe, htail, hlen⟩ :=
    frameBytes_shape (kind := requestKind) (code := requestCode r) (tag := tag) (requestBody_length hfits)
  have hstart : s.setReceiver l [] = s := by rw [← hreceiver]; exact State.setReceiver_self
  generalize hf : frameBytes requestKind (requestCode r) tag (requestBody r) = frame at hframe ⊢
  have hbytes := performAll_bytes (l := l) hlive hidle
    (fun _ _ _ h => assembling_frame htail hlen (hframe.symm.trans h)) [.frameComplete l] frame [] rfl
  rw [hstart] at hbytes
  rw [hbytes, exec_commandOf, State.request, receivedRequest, if_pos hfits]
  have hwhole : completeFrame frame = some (frame, []) := by rw [hframe]; exact completeFrame_whole htail
  have hchecked : frameChecked frame = some (frameInner requestKind (requestCode r) tag (requestBody r)) := by
    rw [← hf]; exact frameChecked_frameBytes _ _ _ _
  have htaken : (s.setReceiver l frame).takeFrame l = s.receive l tag (.known r) := by
    have hback : (s.setReceiver l frame).modLink l ({ · with receiver := hunt [] }) = s :=
      (State.setReceiver_setReceiver frame []).trans hstart
    unfold State.takeFrame
    rw [State.receiver_setReceiver, hwhole]
    simp only [hchecked, frameInner, hback, if_true, requestBodyRoundTrip r hfits]
  have hlive' : (s.setReceiver l frame).inReset = false := by rw [← hlive]; exact State.modLink_inReset _ _
  show (match Host.Outcome.next ((s.setReceiver l frame).live (·.takeFrame l)) with
    | .next t => performAll [] t
    | o => o) = _
  simp only [performAll, State.live, hlive, hlive', htaken, Bool.false_eq_true, if_false]

end Sys2Proof.Machine

/-! PROOFS. Tier 1: the reads, the settings of zones, probes and classes, the pallet requests, and the events of
links, sensors, lines and clock. Each request is its block's equation under `exec_of_ready`. -/

namespace Sys2Proof.Machine

/-! ### The indices of a request (R216) -/

theorem indexOf_idx {n : Nat} (hn : n ≤ 256) (i : Fin n) : indexOf n (idx i) = some i := by
  have hval : (idx i).toNat = i.val := toNat_byteOf (by omega)
  simp [indexOf, hval]

namespace Dock

variable {k : Dock}

theorem zoneOf_idx {z : Fin 8} (h : k.zoneFitted z = true) : k.zoneOf (idx z) = .ok z := by
  rw [zoneOf_index, if_pos h]

theorem doorOf_idx {d : Fin 16} (h : k.doorFitted d = true) : k.doorOf (idx d) = .ok d := by
  simp [doorOf, indexOf_idx, h]

theorem laneOf_idx {n : Fin 24} (h : k.laneFitted n = true) : k.laneOf (idx n) = .ok n := by
  simp [laneOf, indexOf_idx, h]

theorem ringOf_idx {r : Fin 20} (h : k.ringFitted r = true) : k.ringOf (idx r) = .ok r := by
  simp [ringOf, indexOf_idx, h]

end Dock

/-! ### Reads (R17, R18, R22, R48, R61, R106, R112, R145, R160, R171, R190, R192, R209, R210) -/

namespace Dock

variable {k : Dock}

theorem readZone_keeping {z : Fin 8} (h : k.zoneFitted z = true) :
    k.readZone (idx z) 0 = accept k (k.zoneRecord z (k.zones[z]).inexact) := by
  simp only [readZone, zoneOf_idx h]
  rfl

theorem readProbe_idx (p : Fin 32) : k.readProbe (idx p) = accept k (k.probeRecord p) := by
  simp [readProbe, indexOf_idx]

theorem readClass_idx (c : Fin 8) : k.readClass (idx c) = accept k (k.classRecord c) := by
  simp [readClass, indexOf_idx]

theorem readLane_idx (n : Fin 24) : k.readLane (idx n) = accept k (k.laneRecord n) := by
  simp [readLane, indexOf_idx]

theorem readDoor_idx {d : Fin 16} (h : k.doorFitted d = true) : k.readDoor (idx d) = accept k (k.doorRecord d) := by
  simp only [readDoor, doorOf_idx h]

theorem readDefrost_idx {z : Fin 8} (h : k.zoneFitted z = true) :
    k.readDefrost (idx z) = accept k (k.defrostRecord z ++ [byteOf k.slotLimit, byteOf k.slotsHeld]) := by
  simp only [readDefrost, zoneOf_idx h]

theorem readChannel_idx {c : Fin 48} (h : k.channelFitted c = true) :
    k.readChannel (idx c) = accept k (k.channelReply c) := by
  simp [readChannel, indexOf_idx, h]

theorem readRing_idx {r : Fin 20} (h : k.ringFitted r = true) {offset clear : Byte} (hoffset : offset.toNat ≤ 31)
    (hclear : clear.toNat ≤ 3) :
    k.readRing ⟨idx r, offset, clear⟩ = accept (k.modRing r (fun ring =>
      { ring with
        drained := ring.drained && !clear.getLsbD 0
        unplanned := ring.unplanned && !clear.getLsbD 1 })) (k.ringReply r offset.toNat) := by
  have hrange : ¬ (31 < offset.toNat ∨ 3 < clear.toNat) := by omega
  simp only [readRing, ringOf_idx h, hrange, if_false]

theorem readNode_address (n : Fin 48) : k.readNode (byteOf (n.val + 1)) = accept k (k.nodeReply n) := by
  have hnonzero : byteOf (n.val + 1) ≠ 0 := by
    intro h
    have := congrArg BitVec.toNat h
    rw [toNat_byteOf (by omega)] at this
    simp at this
  have hless : byteOf (n.val + 1) - 1 = idx n := by
    apply BitVec.eq_of_toNat_eq
    rw [BitVec.toNat_sub, toNat_byteOf (by omega), toNat_byteOf (by omega)]
    simp; omega
  rw [readNode, if_neg hnonzero, hless, indexOf_idx (by decide)]

end Dock

/-- Settles O15. -/
theorem zoneAndLaneReadsAnswer : Obligations.ZoneAndLaneReadsAnswer := fun _ _ _ =>
  ⟨fun _ h hfitted => exec_of_ready_dock (·.readZone (idx _) 0) h rfl (Dock.readZone_keeping hfitted),
    fun _ h hfitted => exec_of_ready_dock (·.readZone (idx _) 1) h rfl (Dock.readZone_clearing hfitted),
    fun p h => exec_of_ready_dock (·.readProbe (idx p)) h rfl (Dock.readProbe_idx p),
    fun c h => exec_of_ready_dock (·.readClass (idx c)) h rfl (Dock.readClass_idx c),
    fun n h => exec_of_ready_dock (·.readLane (idx n)) h rfl (Dock.readLane_idx n)⟩

/-- Settles O16. -/
theorem doorAndRingReadsAnswer : Obligations.DoorAndRingReadsAnswer := fun _ _ _ =>
  ⟨fun _ h hfitted => exec_of_ready_dock (·.readDoor (idx _)) h rfl (Dock.readDoor_idx hfitted),
    fun _ h hfitted => exec_of_ready_dock (·.readDefrost (idx _)) h rfl (Dock.readDefrost_idx hfitted),
    fun _ h hfitted => exec_of_ready_dock (·.readChannel (idx _)) h rfl (Dock.readChannel_idx hfitted),
    fun _ _ _ h hfitted hoffset hclear =>
      exec_of_ready_dock (·.readRing ⟨idx _, _, _⟩) h rfl (Dock.readRing_idx hfitted hoffset hclear)⟩

/-- Settles O17. -/
theorem siteReadsAnswer : Obligations.SiteReadsAnswer := fun _ _ _ =>
  ⟨fun start h hstart => exec_of_ready_dock (·.readAlarms start) h rfl (if_neg (Nat.not_lt.mpr hstart)),
    fun h => exec_of_ready h rfl,
    fun n h => exec_of_ready_dock (·.readNode (byteOf (n.val + 1))) h rfl (Dock.readNode_address n),
    fun h => exec_of_ready h rfl,
    fun h => exec_of_ready h rfl,
    fun h => exec_of_ready h rfl⟩

/-! ### Zones, probes and classes (R2, R5, R22) -/

namespace Dock

variable {k : Dock}

theorem setZone_accepted {a : SetZone} {z : Fin 8} {kind : ZoneKind} {mode : Rounding} (hz : a.zone = idx z)
    (hfitted : k.zoneFitted z = true) (hkind : readZoneKind a.kind = some kind)
    (hmode : readRounding a.rounding = some mode) (hok : zoneFieldsOk a = true)
    (huse : kind = (k.zones[z]).kind ∨ k.zoneInUse z = false) {k' : Dock}
    (hk' : k' = (k.modZone z ({ · with
      kind := kind, setPoint := a.setPoint.toInt, highLimit := a.highLimit.toInt, lowLimit := a.lowLimit.toInt,
      alarmDelay := a.alarmDelay.toNat, rounding := mode })).zoneUpdate z none) :
    k.setZone a = accept k' (k'.zoneRecord z (k.zones[z]).inexact) := by
  have hfree : ¬ (kind ≠ (k.zones[z]).kind ∧ k.zoneInUse z = true) := by
    rcases huse with h | h <;> simp [h]
  simp only [setZone, hz, zoneOf_idx hfitted, hkind, hmode, hok, hfree, if_false, hk']

/-- R5: an accepted SET_PROBE, by what its target byte names. -/
theorem setProbe_accepted {a : SetProbe} {p : Fin 32} (hp : a.probe = idx p) (hlow : -50 ≤ a.offset.toInt)
    (hhigh : a.offset.toInt ≤ 50) {target : Option (Fin 8)} (htarget : k.probeTarget a.target = .ok target)
    (hroom : ∀ z, target = some z → k.zoneFull p z = false) {k' : Dock}
    (hk' : (k.modProbe p ({ · with offset := a.offset.toInt })).bindProbe p target = k') :
    k.setProbe a = accept k' (k'.probeRecord p) := by
  have hrange : withinInt (-50) 50 a.offset.toInt = true := by simp [withinInt, hlow, hhigh]
  simp only [setProbe, hp, indexOf_idx (by decide : 32 ≤ 256), hrange, htarget, hk']
  cases target with
  | none => rfl
  | some z => simp [hroom z rfl]

theorem probeTarget_none : k.probeTarget 0xFF = .ok none := rfl

theorem probeTarget_idx {z : Fin 8} (h : k.zoneFitted z = true) : k.probeTarget (idx z) = .ok (some z) := by
  have hunbind : ∀ z : Fin 8, idx z ≠ (0xFF : Byte) := by decide
  simp only [probeTarget, hunbind z, if_false, zoneOf_idx h]
  rfl

theorem zoneFull_of_room {p : Fin 32} {z : Fin 8} (h : (k.boundProbes z).length < 4) : k.zoneFull p z = false := by
  simp [zoneFull, h]

theorem zoneFull_of_bound {p : Fin 32} {z : Fin 8} (h : (k.probes[p]).bound = some z) : k.zoneFull p z = false := by
  simp only [zoneFull, h, ne_eq, not_true_eq_false, decide_false, Bool.and_false]

/-! The rows of R5's table. -/

theorem bindProbe_unbound_none {p : Fin 32} (h : (k.probes[p]).bound = none) : k.bindProbe p none = k := by
  unfold bindProbe; rw [h]

theorem bindProbe_unbound_some {p : Fin 32} {z : Fin 8} (h : (k.probes[p]).bound = none) :
    k.bindProbe p (some z) = (k.modProbe p
      ({ · with bound := some z, raw := 0, readTime := k.running, status := .stale })).zoneUpdate z none := by
  unfold bindProbe; rw [h]

theorem bindProbe_bound_none {p : Fin 32} {y : Fin 8} (h : (k.probes[p]).bound = some y) :
    k.bindProbe p none =
      ((k.modProbe p ({ · with bound := none, raw := 0, status := .unbound })).probeLeft p y).zoneUpdate y none := by
  unfold bindProbe; rw [h]

theorem bindProbe_bound_same {p : Fin 32} {y : Fin 8} (h : (k.probes[p]).bound = some y) :
    k.bindProbe p (some y) = k.zoneUpdate y none := by
  unfold bindProbe; rw [h]; exact if_pos rfl

theorem bindProbe_bound_other {p : Fin 32} {y z : Fin 8} (h : (k.probes[p]).bound = some y) (hne : y ≠ z) :
    k.bindProbe p (some z) = (((k.modProbe p
      ({ · with bound := some z, raw := 0, readTime := k.running, status := .stale })).probeLeft p y).zoneUpdate y
        none).zoneUpdate z none := by
  unfold bindProbe; rw [h]; exact if_neg hne

theorem setClass_accepted {a : SetClass} {c : Fin 8} (hc : a.cls = idx c) (hok : classFieldsOk a = true)
    {slots : List Nat} (hslots : slots = k.slotsWhere (fun p => decide (p.cls = c))) {k' : Dock}
    (hk' : k' = slots.foldl (fun k slot => k.regrade slot)
      { k.accrueSlots slots with classes := tmod (k.accrueSlots slots).classes c (fun _ => classOf a) }) :
    k.setClass a = accept k' (k'.classRecord c) := by
  subst hslots
  simp only [setClass, hc, indexOf_idx (by decide : 8 ≤ 256), hok, hk']

end Dock

/-- Settles O18. -/
theorem setZoneWritesAndUpdates : Obligations.SetZoneWritesAndUpdates :=
  fun _ _ _ _ _ _ h hz hfitted hkind hmode hok huse =>
    exec_of_ready_dock (·.setZone _) h rfl (Dock.setZone_accepted hz hfitted hkind hmode hok huse rfl)

/-- Settles O19: the rows of R5 are the rows of `bindProbe`, and the offset's write leaves the binding. -/
theorem setProbeBinds : Obligations.SetProbeBinds := by
  intro s tag a p h hp hlow hhigh k done bind
  have hbinding : (k.probes[p]).bound = (s.dock.probes[p]).bound := by simp [k, Dock.modProbe]
  have answer {target : Option (Fin 8)} (htarget : s.dock.probeTarget a.target = .ok target)
      (hroom : ∀ z, target = some z → s.dock.zoneFull p z = false) :
      exec (.setProbe .site tag a) s = done (k.bindProbe p target) :=
    exec_of_ready_dock (·.setProbe a) h rfl (Dock.setProbe_accepted hp hlow hhigh htarget hroom rfl)
  refine ⟨fun hbound ht => ?_, fun z hbound ht hfitted hroom => ?_, fun y hbound ht => ?_,
    fun y hbound ht hfitted => ?_, fun y z hbound hne ht hfitted hroom => ?_⟩
  · rw [answer (ht ▸ Dock.probeTarget_none) (fun _ hz => by cases hz),
      Dock.bindProbe_unbound_none (hbinding.trans hbound)]
  · rw [answer (ht ▸ Dock.probeTarget_idx hfitted) (fun _ hz => by cases hz; exact Dock.zoneFull_of_room hroom),
      Dock.bindProbe_unbound_some (hbinding.trans hbound)]
    rfl
  · rw [answer (ht ▸ Dock.probeTarget_none) (fun _ hz => by cases hz),
      Dock.bindProbe_bound_none (hbinding.trans hbound)]
  · rw [answer (ht ▸ Dock.probeTarget_idx hfitted) (fun _ hz => by cases hz; exact Dock.zoneFull_of_bound hbound),
      Dock.bindProbe_bound_same (hbinding.trans hbound)]
  · rw [answer (ht ▸ Dock.probeTarget_idx hfitted) (fun _ hz => by cases hz; exact Dock.zoneFull_of_room hroom),
      Dock.bindProbe_bound_other (hbinding.trans hbound) hne.symm]
    rfl

/-- Settles O23. -/
theorem setClassRegrades : Obligations.SetClassRegrades := fun _ _ _ _ h hc hok =>
  exec_of_ready_dock (·.setClass _) h rfl (Dock.setClass_accepted hc hok rfl rfl)

/-! ### Pallet requests (R39 to R43) -/

namespace Dock

variable {k : Dock}

theorem amendPallet_stale {l : Link} {a : AmendPallet} {c : Changes} {slot : Nat} {p : Pallet}
    (hc : readChanges a = some c) (hlink : l = .site ∨ c.supervisor = false) (hfind : k.findTag a.tag = some (slot, p))
    (hrevision : a.revision ≠ p.revision) :
    k.amendPallet l a = (k, { status := .stale, data := halfBytes p.revision }) := by
  have hpermitted : ¬ (l = .floor ∧ c.supervisor = true) := by rcases hlink with h | h <;> simp [h]
  simp only [amendPallet, hc, hpermitted, if_false, hfind, hrevision, ne_eq, not_false_eq_true, if_true]

theorem amendPallet_applied {l : Link} {a : AmendPallet} {c : Changes} {slot : Nat} {p : Pallet}
    (hc : readChanges a = some c) (hlink : l = .site ∨ c.supervisor = false) (hfind : k.findTag a.tag = some (slot, p))
    (hrevision : a.revision = p.revision) (hclass : c.cls = none ∨ inTransit p = false) {k' : Dock}
    (hk' : ((k.accrue slot).modPallet slot c.apply).regrade slot = k') :
    k.amendPallet l a = accept k' (k'.palletRecordAt slot) := by
  have hpermitted : ¬ (l = .floor ∧ c.supervisor = true) := by rcases hlink with h | h <;> simp [h]
  have hmovable : ¬ (c.cls.isSome = true ∧ inTransit p = true) := by rcases hclass with h | h <;> simp [h]
  simp only [amendPallet, hc, hpermitted, if_false, hfind, hrevision, ne_eq, not_true_eq_false, hmovable, hk']

theorem readPallet_found {w : Word} {slot : Nat} {p : Pallet} (hw : w ≠ 0) (hfind : k.findTag w = some (slot, p)) :
    k.readPallet w = accept (k.accrue slot) ((k.accrue slot).palletRecordAt slot) := by
  simp only [readPallet, if_neg hw, hfind]

theorem listPallets_accepted {a : ListPallets} {f : Filter} (hf : readFilter a.filter = some f)
    (hstart : a.start.toNat ≤ 1024) (hfitted : k.filterFitted f = true) {slots : List Nat}
    (hslots : k.listedSlots f a.start.toNat = slots) {k' : Dock} (hk' : k.accrueSlots slots = k') :
    k.listPallets a = accept k' (numBytes2 (nextSlot slots) ++ [byteOf slots.length] ++
      slots.flatMap k'.palletSummaryAt) := by
  have hrange : ¬ Config.palletSlots < a.start.toNat := Nat.not_lt.mpr hstart
  simp only [listPallets, hf, hrange, if_false, hfitted, Bool.true_eq_false, hslots, hk']

theorem releasePallet_accepted {w : Word} {slot : Nat} {p : Pallet} (hw : w ≠ 0)
    (hfind : k.findTag w = some (slot, p)) (hloc : p.loc = .departed ∨ p.loc = .adrift)
    (hfree : k.tagWaiting w = false) {k' : Dock} (hk' : k.accrue slot = k') :
    k.releasePallet w =
      accept ((k'.clearCondition .exposureSpent (.pallet w)).emptySlot slot) (k'.palletRecordAt slot) := by
  have hreleasable : ¬ (p.loc ≠ .departed ∧ p.loc ≠ .adrift) := by rcases hloc with h | h <;> simp [h]
  simp only [releasePallet, if_neg hw, hfind, hreleasable, if_false, hfree, Bool.false_eq_true, hk']

end Dock

/-- Settles O25. -/
theorem amendPalletConditional : Obligations.AmendPalletConditional := fun _ l _ a _ _ _ h hc hlink hfind =>
  ⟨fun hrevision => exec_of_ready_dock (·.amendPallet l a) h rfl (Dock.amendPallet_stale hc hlink hfind hrevision),
    fun hrevision hclass =>
      exec_of_ready_dock (·.amendPallet l a) h rfl (Dock.amendPallet_applied hc hlink hfind hrevision hclass rfl)⟩

/-- Settles O26. -/
theorem palletReadsAndRelease : Obligations.PalletReadsAndRelease := fun _ _ _ =>
  ⟨fun w _ _ h hw hfind => exec_of_ready_dock (·.readPallet w) h rfl (Dock.readPallet_found hw hfind),
    fun a _ h hf hstart hfitted =>
      exec_of_ready_dock (·.listPallets a) h rfl (Dock.listPallets_accepted hf hstart hfitted rfl rfl),
    fun w _ _ _ h hw hfind hloc hfree =>
      exec_of_ready_dock (·.releasePallet w) h rfl (Dock.releasePallet_accepted hw hfind hloc hfree rfl)⟩

/-! ### Lanes and rings (R47, R48, R53 to R58) -/

namespace Dock

variable {k : Dock}

theorem setLane_accepted {a : SetLane} {n : Fin 24} {z : Fin 8} {st : LaneState} (hn : a.lane = idx n)
    (hz : a.zone = idx z) (hst : readLaneState a.state = some st) (hcapacity : a.capacity.toNat ≤ 12)
    (hfitted : k.zoneFitted z = true) (huse : k.laneInUse n z a.capacity.toNat = false) {k' : Dock}
    (hk' : k.modLane n ({ · with zone := z, capacity := a.capacity.toNat, state := st }) = k') :
    k.setLane a = accept k' (k'.laneRecord n) := by
  have hrange : within 0 12 a.capacity.toNat = true := within_iff.mpr ⟨Nat.zero_le _, hcapacity⟩
  simp only [setLane, hn, hz, indexOf_idx (by decide : 24 ≤ 256), indexOf_idx (by decide : 8 ≤ 256), hst, hrange,
    hfitted, Bool.true_eq_false, if_false, huse, Bool.false_eq_true, hk']

theorem setLaneState_idx {n : Fin 24} (h : k.laneFitted n = true) (st : LaneState) :
    k.setLaneState (idx n) st = accept (k.modLane n ({ · with state := st })) := by
  simp only [setLaneState, laneOf_idx h]

theorem runRing_waiting {r : Fin 20} (h : k.ringFitted r = true)
    (hrun : (k.rings[r]).state ≠ .halted ∨ (k.rings[r]).waiting ≠ []) :
    k.runRing (idx r) = accept (k.modRing r ({ · with state := .run })) := by
  have hnotEmpty : ¬ ((k.rings[r]).state = .halted ∧ (k.rings[r]).waiting.isEmpty = true) := by
    rcases hrun with h | h
    · exact fun hc => h hc.1
    · exact fun hc => h (List.isEmpty_iff.mp hc.2)
  simp only [runRing, ringOf_idx h, hnotEmpty, if_false]

theorem runRing_empty {r : Fin 20} (h : k.ringFitted r = true) (hstate : (k.rings[r]).state = .halted)
    (hempty : (k.rings[r]).waiting = []) : k.runRing (idx r) = accept k := by
  simp only [runRing, ringOf_idx h, hstate, hempty, List.isEmpty_nil, and_self, if_true]

theorem pauseRing_running {r : Fin 20} (h : k.ringFitted r = true) (hstate : (k.rings[r]).state ≠ .halted) :
    k.pauseRing (idx r) = accept (k.modRing r ({ · with state := .paused })) := by
  simp only [pauseRing, ringOf_idx h, hstate, if_false]

theorem pauseRing_halted {r : Fin 20} (h : k.ringFitted r = true) (hstate : (k.rings[r]).state = .halted) :
    k.pauseRing (idx r) = refuse k .badState := by
  simp only [pauseRing, ringOf_idx h, hstate, if_true]

theorem clearRing_unpicked {r : Fin 20} (h : k.ringFitted r = true) (hhead : k.headPicked r = false) :
    k.clearRing (idx r) = accept (k.modRing r (fun ring =>
      { ring with head := ring.tail, waiting := [], state := .halted })) [byteOf (k.rings[r]).waiting.length] := by
  simp only [clearRing, ringOf_idx h, hhead, Bool.false_eq_true, if_false]

theorem clearRing_picked {r : Fin 20} (h : k.ringFitted r = true) (hhead : k.headPicked r = true) :
    k.clearRing (idx r) = refuse k .badState := by
  simp only [clearRing, ringOf_idx h, hhead, if_true]

/-- R53: every check of POST_MOVES passed. -/
theorem postRefusal_eq_none {r : Fin 20} {ms : List Descriptor} (hring : k.ringFitted r = true)
    (hfitted : ∀ m ∈ ms, k.spotFitted m.source = true ∧ k.spotFitted m.dest = true)
    (hends : ∀ m ∈ ms, k.sourceOk m.source = true ∧ k.destOk m.dest = true)
    (hnew : ∀ m ∈ ms, k.tagWaiting m.tag = false) (hnodup : (ms.map (·.tag)).Nodup)
    (hroom : (k.rings[r]).waiting.length + ms.length ≤ 32) : k.postRefusal r ms = none := by
  have hfitted' : ms.all (fun m => k.spotFitted m.source && k.spotFitted m.dest) = true := by simpa using hfitted
  have hends' : ms.all (fun m => k.sourceOk m.source && k.destOk m.dest) = true := by simpa using hends
  have hnew' : ms.any (fun m => k.tagWaiting m.tag) = false := by simpa using hnew
  have hroom' : ¬ Config.ringSize < (k.rings[r]).waiting.length + ms.length := Nat.not_lt.mpr hroom
  simp only [postRefusal, hring, hfitted', hends', hnew', hnodup, hroom', Bool.true_eq_false, Bool.false_eq_true,
    not_true_eq_false, or_self, if_false]

theorem postMoves_accepted {a : PostMoves} {r : Fin 20} {ms : List Descriptor} (hr : a.ring = idx r)
    (hms : readEvery (readMove r) a.moves = some ms) (hlow : 1 ≤ ms.length) (hhigh : ms.length ≤ 8)
    (hpass : k.postRefusal r ms = none) :
    k.postMoves a = accept (k.modRing r (fun ring => { ring with waiting := ring.waiting ++ ms }))
      (byteOf ms.length :: (List.range ms.length).map
        (fun i => byteOf ((k.rings[r]).positionOf ((k.rings[r]).waiting.length + i)).val) ++
        [byteOf ((k.rings[r]).waiting.length + ms.length)]) := by
  have hlen : within 1 8 a.moves.length = true := within_iff.mpr (readEvery_length hms ▸ ⟨hlow, hhigh⟩)
  simp only [postMoves, hr, indexOf_idx (by decide : 20 ≤ 256), hms, hlen, hpass]

end Dock

/-- Settles O30. -/
theorem laneAndRingRequests : Obligations.LaneAndRingRequests := fun _ _ _ =>
  ⟨fun a _ _ _ h hn hz hst hcapacity hfitted huse =>
      exec_of_ready_dock (·.setLane a) h rfl (Dock.setLane_accepted hn hz hst hcapacity hfitted huse rfl),
    fun n h hfitted => exec_of_ready_dock (·.setLaneState (idx n) .blocked) h rfl (Dock.setLaneState_idx hfitted _),
    fun n h hfitted => exec_of_ready_dock (·.setLaneState (idx n) .enabled) h rfl (Dock.setLaneState_idx hfitted _),
    fun r h hfitted =>
      ⟨fun hrun => exec_of_ready_dock (·.runRing (idx r)) h rfl (Dock.runRing_waiting hfitted hrun),
        fun hstate hempty => exec_of_ready_dock (·.runRing (idx r)) h rfl (Dock.runRing_empty hfitted hstate hempty)⟩,
    fun r h hfitted =>
      ⟨fun hstate => exec_of_ready_dock (·.pauseRing (idx r)) h rfl (Dock.pauseRing_running hfitted hstate),
        fun hstate => exec_of_ready_dock (·.pauseRing (idx r)) h rfl (Dock.pauseRing_halted hfitted hstate)⟩,
    fun r h hfitted =>
      ⟨fun hhead => exec_of_ready_dock (·.clearRing (idx r)) h rfl (Dock.clearRing_unpicked hfitted hhead),
        fun hhead => exec_of_ready_dock (·.clearRing (idx r)) h rfl (Dock.clearRing_picked hfitted hhead)⟩⟩

/-- Settles O31. -/
theorem postMovesAppends : Obligations.PostMovesAppends :=
  fun _ _ _ a _ _ h hr hms hlow hhigh hring hfitted hends hnew hnodup hroom =>
    exec_of_ready_dock (·.postMoves a) h rfl (Dock.postMoves_accepted hr hms hlow hhigh
      (Dock.postRefusal_eq_none hring hfitted hends hnew hnodup hroom))

/-! ### Events on the dock's records (R7, R8, R14, R15, R70, R191) -/

theorem event_of_live {s : State} (f : Dock → Dock) (hlive : s.inReset = false) {k : Dock} (hf : f s.dock = k) :
    s.event f = .next (s.on k).settle := by
  rw [State.event, State.live, if_neg (by rw [hlive]; decide), hf]
  rfl

namespace Dock

variable {k : Dock}

theorem due_of_le {start length : Nat} (h : start + length ≤ k.running) : k.due (some start) length = true :=
  decide_eq_true h

theorem stalenessExpiry_due {p : Fin 32} {z : Fin 8} (hbound : (k.probes[p]).bound = some z)
    (hstatus : (k.probes[p]).status = .ok ∨ (k.probes[p]).status = .outOfRange)
    (hdue : (k.probes[p]).readTime + 120 ≤ k.running) :
    k.stalenessExpiry p = (k.modProbe p ({ · with status := .stale })).zoneUpdate z none := by
  have hruns : k.stalenessDue p = true := by
    have := due_of_le (k := k) (length := Config.stalenessTime) hdue
    rcases hstatus with h | h
    · simp only [stalenessDue, h, this, decide_true, Bool.true_or, Bool.and_self]
    · simp only [stalenessDue, h, this, decide_true, Bool.or_true, Bool.and_self]
  unfold stalenessExpiry
  rw [if_pos hruns, hbound]

theorem refreshExpiry_due {z : Fin 8} {start : Nat} (hrefresh : (k.zones[z]).refresh = some start)
    (hdue : start + 60 ≤ k.running) : k.refreshExpiry z = k.zoneUpdate z none := by
  unfold refreshExpiry
  rw [hrefresh, due_of_le (show start + Config.refreshTime ≤ k.running from hdue), if_pos rfl]

theorem warmExpiry_due {z : Fin 8} {start : Nat} (hwarm : (k.zones[z]).warm = .timing start)
    (hdue : start + (k.zones[z]).alarmDelay ≤ k.running) :
    k.warmExpiry z = (k.modZone z ({ · with warm := .raised })).raise .zoneWarm (.zone z) := by
  simp only [warmExpiry, hwarm, due_of_le hdue, if_true]

theorem coldExpiry_due {z : Fin 8} {start : Nat} (hcold : (k.zones[z]).cold = .timing start)
    (hdue : start + (k.zones[z]).alarmDelay ≤ k.running) :
    k.coldExpiry z = (k.modZone z ({ · with cold := .raised })).raise .zoneCold (.zone z) := by
  simp only [coldExpiry, hcold, due_of_le hdue, if_true]

theorem allowanceExpiry_due {r : Fin 20} {m : Descriptor} {rest : List Descriptor} {start : Nat}
    (hwaiting : (k.rings[r]).waiting = m :: rest) (hpicked : m.status = .picked) (hfresh : m.overdue = false)
    (hstart : m.pickTime = some start) (hdue : start + m.allowance ≤ k.running) :
    k.allowanceExpiry r = (k.modRing r ({ · with waiting := { m with overdue := true } :: rest })).raise
      .moveOverdue (.ring r) := by
  simp only [allowanceExpiry, hwaiting, hpicked, hfresh, hstart, due_of_le hdue, and_self, if_true]

end Dock

/-- Settles O22. -/
theorem sensorTimersExpire : Obligations.SensorTimersExpire := fun _ hlive =>
  ⟨fun p _ hbound hstatus hdue =>
      event_of_live (·.stalenessExpiry p) hlive (Dock.stalenessExpiry_due hbound hstatus hdue),
    fun z _ hrefresh hdue => event_of_live (·.refreshExpiry z) hlive (Dock.refreshExpiry_due hrefresh hdue),
    fun z _ hwarm hdue => event_of_live (·.warmExpiry z) hlive (Dock.warmExpiry_due hwarm hdue),
    fun z _ hcold hdue => event_of_live (·.coldExpiry z) hlive (Dock.coldExpiry_due hcold hdue),
    fun r _ _ _ hwaiting hpicked hfresh hstart hdue =>
      event_of_live (·.allowanceExpiry r) hlive (Dock.allowanceExpiry_due hwaiting hpicked hfresh hstart hdue)⟩

namespace Dock

variable {k : Dock}

theorem tick_below (h : k.running < 4294967295) : k.tick = { k with running := k.running + 1 } := by
  simp only [tick, Config.runningMax, Nat.min_eq_left (Nat.succ_le_of_lt h)]

theorem tick_held (h : k.running = 4294967295) : k.tick = k := by
  have hheld : min (k.running + 1) Config.runningMax = k.running := by
    rw [Config.runningMax, h]; rfl
  rw [tick, hheld]

/-- R192: the offset that makes the site time the time carried. -/
theorem siteTime_setClock (time : Word) :
    ({ k with offset := time - BitVec.ofNat 32 k.running } : Dock).siteTime = time := by
  rw [siteTime, siteOf, BitVec.add_comm, BitVec.sub_add_cancel]

end Dock

/-- Settles O54. -/
theorem clockRuns : Obligations.ClockRuns := by
  intro s
  refine ⟨fun hlive hrunning => event_of_live Dock.tick hlive (Dock.tick_below hrunning),
    fun hlive hrunning => event_of_live Dock.tick hlive (Dock.tick_held hrunning), fun tag time h => ?_⟩
  refine ⟨exec_of_ready_dock (·.setClock time) h rfl ?_, Dock.siteTime_setClock time⟩
  rw [Dock.setClock, Dock.clockBytes, Dock.siteTime_setClock]
  rfl

/-! ### Reset, link events and notices (R146, R196 to R198, R203 to R206, R213) -/

/-- Settles O8: the branches of `offer` and of `create`. -/
theorem noticesQueued : Obligations.NoticesQueued := by
  intro e n
  have hroom (h : e.queue.length < 32) : e.queue.length < Config.noticePlaces := h
  refine ⟨fun h => ?_, fun h hlen => ?_, fun h hlen => ?_, fun h => ?_⟩
  · simp [NoticeEnd.offer, h]
  · simp [NoticeEnd.offer, h, NoticeEnd.create, hroom hlen]
  · have hfull : ¬ e.queue.length < Config.noticePlaces := Nat.not_lt.mpr hlen
    simp [NoticeEnd.offer, h, NoticeEnd.create, hfull]
  · by_cases hlen : e.queue.length < Config.noticePlaces
    · simp [NoticeEnd.offer, h, NoticeEnd.create, hlen]
    · simp [NoticeEnd.offer, h, NoticeEnd.create, hlen]

/-- Settles O11. -/
theorem resetAndRelease : Obligations.ResetAndRelease := by
  intro s
  refine ⟨rfl, fun hreset hline => ?_, fun hreset hline => ?_⟩
  · show Host.Outcome.next s.endReset = _
    simp only [State.endReset, hreset, hline, if_true, Bool.false_eq_true, if_false]
  · show Host.Outcome.next s.endReset = _
    simp only [State.endReset, hreset, hline, if_true]

theorem live_of_live {s : State} (hlive : s.inReset = false) (f : State → State) : s.live f = (f s).settle :=
  if_neg (by rw [hlive]; decide)

/-- Two writes of a link's end that agree on the end as it is. -/
theorem State.modLink_congr {s : State} {l : Link} {f g : LinkEnd → LinkEnd}
    (h : f (s.linkEnd l) = g (s.linkEnd l)) : s.modLink l f = s.modLink l g := by
  cases l
  · exact congrArg (fun e => { s with site := e }) h
  · exact congrArg (fun e => { s with floor := e }) h

/-- Settles O12: each event's branch, by what the receiver or the transmitter holds. -/
theorem linkEventsComplete : Obligations.LinkEventsComplete := by
  intro s l hlive
  have hevent {f t : State → State} (h : f s = t s) : Host.Outcome.next (s.live f) = (.next (t s).settle : Result) := by
    rw [live_of_live hlive, h]
  refine ⟨fun b hnone => hevent (t := (·.modLink l _)) ?_, fun b hnone => hevent (t := (·.modLink l _)) ?_,
    fun hnone => hevent (t := (·.modLink l _)) ?_, fun frame rest len code tag body hframe hchecked => ?_,
    fun frame rest len kind code tag body hframe hchecked hkind => ?_, fun frame rest hframe hchecked => ?_,
    fun frame hsending => hevent (t := (·.modLink l _)) ?_,
    fun kind frame hkind hsending => hevent (t := (·.modLink l _)) ?_⟩
  · exact State.modLink_congr (by simp [hnone])
  · exact State.modLink_congr (by simp [dropAssembly, hnone])
  · exact State.modLink_congr (by simp [dropAssembly, hnone])
  · exact hevent (t := fun s => (s.modLink l _).receive l tag _) (by
      simp only [State.takeFrame, hframe, hchecked, if_true])
  · exact hevent (t := (·.modLink l _)) (by simp only [State.takeFrame, hframe, hchecked, hkind, if_false])
  · exact hevent (t := (·.modLink l _)) (by simp only [State.takeFrame, hframe, hchecked])
  · exact State.modLink_congr (by simp [hsending])
  · refine State.modLink_congr ?_
    cases kind with
    | reply => exact absurd rfl hkind
    | overrun => simp [hsending]
    | notice => simp [hsending]

end Sys2Proof.Machine

/-! PROOFS. Output channels (Chapter 6): what a recomputation and a command write into a channel and what they leave
of the others, the table of the feedback check, and the statements on SET_CHANNEL and on the plant-stop line. -/

namespace Sys2Proof.Machine
namespace Dock

variable {k : Dock} {c j : Fin 48}

/-! ### One channel written, the others left (R135 to R138) -/

theorem modChannel_same (f : Channel → Channel) : (k.modChannel c f).channels[c] = f k.channels[c] := tmod_same ..

theorem modChannel_other (f : Channel → Channel) (hne : c ≠ j) : (k.modChannel c f).channels[j] = k.channels[j] :=
  tmod_ne _ _ hne

theorem recompute_other (hne : c ≠ j) : (k.recompute c).channels[j] = k.channels[j] :=
  recompute_invariant (P := fun k' => k'.channels[j] = k.channels[j])
    (fun _ _ h => (modChannel_other _ hne).trans h) (fun _ _ _ h => by simpa using h) rfl

/-- R135: a recomputation writes the effective level and the check alone. -/
theorem recompute_same : ((k.recompute c).channels[c]).unchecked =
    { (k.channels[c]).unchecked with
      effective := effectiveLevel (channelKind c) (k.channels[c]).latch (k.channels[c]).armed k.plantStop } := by
  simp only [recompute]
  split
  next heq => exact (congrArg (fun lv => ({ (k.channels[c]).unchecked with effective := lv } : Channel)) heq).symm
  next => rw [compareChannel_unchecked, modChannel_same]; rfl

theorem modChannel_recompute_other (f : Channel → Channel) (hne : c ≠ j) :
    ((k.modChannel c f).recompute c).channels[j] = k.channels[j] :=
  (recompute_other hne).trans (modChannel_other f hne)

theorem modChannel_recompute_same (f : Channel → Channel) :
    (((k.modChannel c f).recompute c).channels[c]).unchecked =
      { (f k.channels[c]).unchecked with
        effective := effectiveLevel (channelKind c) (f k.channels[c]).latch (f k.channels[c]).armed k.plantStop } := by
  rw [recompute_same, modChannel_same]
  rfl

theorem command_other (lv : Level) (hne : c ≠ j) : (k.command c lv).channels[j] = k.channels[j] := by
  unfold command
  split
  · rfl
  · exact modChannel_recompute_other _ hne

theorem command_manual {lv : Level} (h : (k.channels[c]).owner = .manual) : k.command c lv = k := by
  unfold command
  rw [h]

theorem command_sequencer {lv : Level} (h : (k.channels[c]).owner = .sequencer) :
    k.command c lv = (k.modChannel c ({ · with latch := lv, armed := true })).recompute c := by
  unfold command
  rw [h]

/-- R136: the latch and the armed flag of a commanded channel that the sequencer owns. -/
theorem command_same {lv : Level} (h : (k.channels[c]).owner = .sequencer) :
    ((k.command c lv).channels[c]).latch = lv ∧ ((k.command c lv).channels[c]).armed = true := by
  have hwritten := modChannel_recompute_same (k := k) (c := c) ({ · with latch := lv, armed := true })
  rw [command_sequencer h]
  exact ⟨congrArg Channel.latch hwritten, congrArg Channel.armed hwritten⟩

/-- R138: what a return leaves in the channel. -/
theorem returnChannel_same :
    ((k.returnChannel c).channels[c]).owner = .sequencer ∧ ((k.returnChannel c).channels[c]).armed = false := by
  have hwritten := modChannel_recompute_same (k := k) (c := c)
    ({ · with owner := .sequencer, latch := (channelKind c).safe, armed := false })
  exact ⟨congrArg Channel.owner hwritten, congrArg Channel.armed hwritten⟩

theorem returnChannel_other (hne : c ≠ j) : (k.returnChannel c).channels[j] = k.channels[j] :=
  modChannel_recompute_other _ hne

/-! ### The feedback check (R140 to R142) -/

theorem compareChannel_suspended (w : Bool) (h : (k.channels[c]).check = .suspended) : k.compareChannel c w = k := by
  unfold compareChannel
  dsimp only
  split
  · rfl
  · rw [if_pos h]

/-- R140, the column of agreement, a raised check. -/
theorem compareChannel_agrees_raised {w : Bool} {fb : Level} {kind : RaisedKind}
    (hfb : (k.channels[c]).feedback = some fb) (heq : fb = (k.channels[c]).effective)
    (hcheck : (k.channels[c]).check = .raised kind) :
    k.compareChannel c w =
      (k.modChannel c ({ · with check := .agree })).clearCondition kind.alarm (.channel c) := by
  unfold compareChannel
  dsimp only
  rw [hfb, hcheck]
  dsimp only
  rw [if_neg (by simp), if_pos heq]

/-- R140, the column of agreement, a check not raised. -/
theorem compareChannel_agrees {w : Bool} {fb : Level} (hfb : (k.channels[c]).feedback = some fb)
    (heq : fb = (k.channels[c]).effective)
    (hcheck : (k.channels[c]).check = .agree ∨ ∃ start, (k.channels[c]).check = .timing start) :
    k.compareChannel c w = k.modChannel c ({ · with check := .agree }) := by
  unfold compareChannel
  dsimp only
  rcases hcheck with h | ⟨start, h⟩
  · rw [hfb, h]; dsimp only; rw [if_neg (by simp), if_pos heq]
  · rw [hfb, h]; dsimp only; rw [if_neg (by simp), if_pos heq]

theorem compareChannel_differs_agree {w : Bool} {fb : Level} (hfb : (k.channels[c]).feedback = some fb)
    (hne : fb ≠ (k.channels[c]).effective) (hcheck : (k.channels[c]).check = .agree) :
    k.compareChannel c w = k.modChannel c ({ · with check := .timing k.running }) := by
  unfold compareChannel
  dsimp only
  rw [hfb, hcheck]; dsimp only; rw [if_neg (by simp), if_neg hne]

theorem compareChannel_differs_timing {w : Bool} {fb : Level} {start : Nat}
    (hfb : (k.channels[c]).feedback = some fb) (hne : fb ≠ (k.channels[c]).effective)
    (hcheck : (k.channels[c]).check = .timing start) :
    k.compareChannel c w = if w then k else k.modChannel c ({ · with check := .timing k.running }) := by
  unfold compareChannel
  dsimp only
  rw [hfb, hcheck]; dsimp only; rw [if_neg (by simp), if_neg hne]

theorem compareChannel_differs_raised {w : Bool} {fb : Level} {kind : RaisedKind}
    (hfb : (k.channels[c]).feedback = some fb) (hne : fb ≠ (k.channels[c]).effective)
    (hcheck : (k.channels[c]).check = .raised kind) :
    k.compareChannel c w =
      if disagreement (channelKind c) (some fb) (k.channels[c]).effective = kind then k
      else (k.clearCondition kind.alarm (.channel c)).modChannel c ({ · with check := .timing k.running }) := by
  unfold compareChannel
  dsimp only
  rw [hfb, hcheck]; dsimp only; rw [if_neg (by simp), if_neg hne]

end Dock

/-! ### SET_CHANNEL, the mismatch timer and the table (R137, R139 to R142) -/

namespace Dock

variable {k : Dock} {c : Fin 48}

theorem setChannel_accepted {a : SetChannel} {lv : Level} (hc : a.channel = idx c)
    (hlv : readLevel c a.level = some lv) (hfitted : k.channelFitted c = true) (hmanual : k.manualAllowed c = true) :
    k.setChannel a = accept (k.setByHand c lv) ((k.setByHand c lv).channelRecord c) := by
  simp only [setChannel, hc, indexOf_idx (by decide : 48 ≤ 256), hlv, hfitted, hmanual, Bool.true_eq_false, if_false]

/-- R137: what a level set by hand leaves in the channel. -/
theorem setByHand_same (lv : Level) :
    ((k.setByHand c lv).channels[c]).unchecked =
      { (k.channels[c]).unchecked with
        owner := .manual, latch := lv, armed := true
        effective := effectiveLevel (channelKind c) lv true k.plantStop } :=
  modChannel_recompute_same _

/-- R139, R142: the channel as a feedback write finds it for the comparison. -/
theorem writeFeedback_eq (fb : Option Level) :
    k.writeFeedback c fb = (k.modChannel c ({ · with
      feedback := fb
      check := if (k.channels[c]).check = .suspended then .agree else (k.channels[c]).check })).compareChannel c
        true := by
  unfold writeFeedback
  congr 1

theorem recompute_changed
    (hne : effectiveLevel (channelKind c) (k.channels[c]).latch (k.channels[c]).armed k.plantStop ≠
      (k.channels[c]).effective) :
    k.recompute c = (k.modChannel c (fun ch =>
      { ch with effective := (effectiveLevel (channelKind c) (k.channels[c]).latch (k.channels[c]).armed k.plantStop) }
      )).compareChannel c false := if_neg hne

end Dock

/-- R140: a feedback write, row by row of the table. -/
theorem feedback_write_table (k : Dock) (c : Fin 48) (fb : Option Level) :
    let ch := k.channels[c]
    let check : Check := if ch.check = .suspended then .agree else ch.check
    let k1 := k.modChannel c ({ · with feedback := fb, check := check })
    let k' := k.writeFeedback c fb
    (fb = none → k' = k1) ∧
    (fb = some ch.effective →
      (∀ kind, check = .raised kind →
        k' = (k1.modChannel c ({ · with check := .agree })).clearCondition kind.alarm (.channel c)) ∧
      ((∀ kind, check ≠ .raised kind) → k' = k1.modChannel c ({ · with check := .agree }))) ∧
    (∀ lv, fb = some lv → lv ≠ ch.effective →
      (check = .agree → k' = k1.modChannel c ({ · with check := .timing k.running })) ∧
      (∀ start, check = .timing start → k' = k1) ∧
      (∀ kind, check = .raised kind →
        (disagreement (channelKind c) fb ch.effective = kind → k' = k1) ∧
        (disagreement (channelKind c) fb ch.effective ≠ kind →
          k' = (k1.clearCondition kind.alarm (.channel c)).modChannel c ({ · with check := .timing k.running })))) := by
  intro ch check k1 k'
  have hk' : k' = k1.compareChannel c true := Dock.writeFeedback_eq fb
  have hwritten : k1.channels[c] = { ch with feedback := fb, check := check } := Dock.modChannel_same _
  have hfeedback : (k1.channels[c]).feedback = fb := by rw [hwritten]
  have heffective : (k1.channels[c]).effective = ch.effective := by rw [hwritten]
  have hcheck : (k1.channels[c]).check = check := by rw [hwritten]
  have hresumed : check ≠ .suspended := by
    show (if ch.check = .suspended then Check.agree else ch.check) ≠ .suspended
    split
    · exact fun h => by cases h
    · assumption
  rw [hk']
  refine ⟨fun hnone => Dock.compareChannel_unknown _ (hfeedback.trans hnone), fun hsome => ⟨fun kind hraised => ?_,
    fun hraised => ?_⟩, fun lv hsome hne => ?_⟩
  · exact Dock.compareChannel_agrees_raised (hfeedback.trans hsome) heffective.symm (hcheck.trans hraised)
  · refine Dock.compareChannel_agrees (hfeedback.trans hsome) heffective.symm ?_
    rw [hcheck]
    match check, hresumed, hraised with
    | .agree, _, _ => exact .inl rfl
    | .timing start, _, _ => exact .inr ⟨start, rfl⟩
    | .raised kind, _, hraised => exact absurd rfl (hraised kind)
    | .suspended, hresumed, _ => exact absurd rfl hresumed
  · have hdiffers : lv ≠ (k1.channels[c]).effective := heffective ▸ hne
    have hfb : (k1.channels[c]).feedback = some lv := hfeedback.trans hsome
    refine ⟨fun hagree => ?_, fun start htiming => ?_, fun kind hraised => ⟨fun hkind => ?_, fun hkind => ?_⟩⟩
    · exact Dock.compareChannel_differs_agree hfb hdiffers (hcheck.trans hagree)
    · rw [Dock.compareChannel_differs_timing hfb hdiffers (hcheck.trans htiming)]; rfl
    · rw [Dock.compareChannel_differs_raised hfb hdiffers (hcheck.trans hraised), heffective, ← hsome, if_pos hkind]
    · rw [Dock.compareChannel_differs_raised hfb hdiffers (hcheck.trans hraised), heffective, ← hsome, if_neg hkind]
      rfl

/-- R140, R142: a recomputation of the effective level, row by row of the table. -/
theorem recompute_table (k : Dock) (c : Fin 48) :
    let ch := k.channels[c]
    let eff := effectiveLevel (channelKind c) ch.latch ch.armed k.plantStop
    let k1 := k.modChannel c ({ · with effective := eff })
    let k' := k.recompute c
    (eff = ch.effective → k' = k) ∧
    (eff ≠ ch.effective →
      (ch.feedback = none ∨ ch.check = .suspended → k' = k1) ∧
      (ch.feedback = some eff →
        (∀ kind, ch.check = .raised kind →
          k' = (k1.modChannel c ({ · with check := .agree })).clearCondition kind.alarm (.channel c)) ∧
        (ch.check = .agree ∨ (∃ start, ch.check = .timing start) →
          k' = k1.modChannel c ({ · with check := .agree }))) ∧
      (∀ lv, ch.feedback = some lv → lv ≠ eff →
        (ch.check = .agree ∨ (∃ start, ch.check = .timing start) →
          k' = k1.modChannel c ({ · with check := .timing k.running })) ∧
        (∀ kind, ch.check = .raised kind →
          (disagreement (channelKind c) ch.feedback eff = kind → k' = k1) ∧
          (disagreement (channelKind c) ch.feedback eff ≠ kind →
            k' = (k1.clearCondition kind.alarm (.channel c)).modChannel c
              ({ · with check := .timing k.running }))))) := by
  intro ch eff k1 k'
  have hwritten : k1.channels[c] = { ch with effective := eff } := Dock.modChannel_same _
  have hfeedback : (k1.channels[c]).feedback = ch.feedback := by rw [hwritten]
  have heffective : (k1.channels[c]).effective = eff := by rw [hwritten]
  have hcheck : (k1.channels[c]).check = ch.check := by rw [hwritten]
  refine ⟨fun hsame => if_pos hsame, fun hchanged => ?_⟩
  have hk' : k' = k1.compareChannel c false := Dock.recompute_changed hchanged
  rw [hk']
  refine ⟨?_, fun hsome => ⟨fun kind hraised => ?_, fun hquiet => ?_⟩, fun lv hsome hne => ?_⟩
  · rintro (hnone | hsuspended)
    · exact Dock.compareChannel_unknown _ (hfeedback.trans hnone)
    · exact Dock.compareChannel_suspended _ (hcheck.trans hsuspended)
  · exact Dock.compareChannel_agrees_raised (hfeedback.trans hsome) heffective.symm (hcheck.trans hraised)
  · exact Dock.compareChannel_agrees (hfeedback.trans hsome) heffective.symm (hcheck ▸ hquiet)
  · have hdiffers : lv ≠ (k1.channels[c]).effective := heffective ▸ hne
    have hfb : (k1.channels[c]).feedback = some lv := hfeedback.trans hsome
    refine ⟨?_, fun kind hraised => ⟨fun hkind => ?_, fun hkind => ?_⟩⟩
    · rintro (hagree | ⟨start, htiming⟩)
      · exact Dock.compareChannel_differs_agree hfb hdiffers (hcheck.trans hagree)
      · rw [Dock.compareChannel_differs_timing hfb hdiffers (hcheck.trans htiming)]; rfl
    · rw [Dock.compareChannel_differs_raised hfb hdiffers (hcheck.trans hraised), heffective, ← hsome, if_pos hkind]
    · rw [Dock.compareChannel_differs_raised hfb hdiffers (hcheck.trans hraised), heffective, ← hsome, if_neg hkind]
      rfl

/-- Settles O46: SET_CHANNEL writes one channel and recomputes it; the rest are the rows of R140. -/
theorem channelCommandsComplete : Obligations.ChannelCommandsComplete := by
  intro s c
  refine ⟨fun l tag a lv h hc hlv hfitted hmanual => ?_, fun start hlive hcheck hdue => ?_,
    fun k fb => feedback_write_table k c fb, fun k => recompute_table k c⟩
  · have hwritten := Dock.setByHand_same (k := s.dock) (c := c) lv
    exact ⟨exec_of_ready_dock (·.setChannel a) h rfl (Dock.setChannel_accepted hc hlv hfitted hmanual),
      congrArg Channel.owner hwritten, congrArg Channel.latch hwritten, congrArg Channel.armed hwritten,
      congrArg Channel.effective hwritten, fun j hne => Dock.modChannel_recompute_other _ hne.symm⟩
  · exact event_of_live (·.mismatchExpiry c) hlive (Dock.mismatchExpiry_due hcheck hdue)

/-! ### The plant-stop line (R143, R144) -/

namespace Dock

variable {k : Dock}

theorem assertStop_released (h : k.plantStop = false) :
    k.assertStop = (((k.setPlantStop true).raise .plantStop .site).doorsPlantStop).defrostPlantStop :=
  if_neg (by rw [h]; decide)

theorem releaseStop_asserted (h : k.plantStop = true) :
    k.releaseStop =
      (((k.setPlantStop false).clearCondition .plantStop .site).doorsPlantRelease).defrostPlantRelease := if_pos h

theorem setPlantStop_plantStop (b : Bool) : (k.setPlantStop b).plantStop = b :=
  foldl_keeps Dock.plantStop _ (fun k c => by simp) _ _

theorem doorsPlantStop_travel (d : Fin 16) : (k.doorsPlantStop.doors[d]).timers.travel = none := by
  simp [doorsPlantStop]

end Dock

/-- Settles O47: the levels are right once the line is written (`channelsOk_setPlantStop`) and each later operation
keeps them so; of a forced kind the right level is the safe value. -/
theorem plantStopForcesSafe : Obligations.PlantStopForcesSafe := by
  intro s hlive
  refine ⟨fun hstop => ?_, fun hstop => ?_⟩
  · have heq := Dock.assertStop_released hstop
    have hasserted : s.dock.assertStop.plantStop = true := by
      rw [heq]; simp [Dock.setPlantStop_plantStop]
    have hlevels : ChannelsOk s.dock.assertStop := by
      rw [heq]
      exact ((((Dock.Keeps.refl (k := s.dock.setPlantStop true)).raise .plantStop .site (by decide)).doorsPlantStop
        ).defrostPlantStop).channels (channelsOk_setPlantStop s.dock true)
    refine ⟨event_of_live (s := { s with plantLine := true }) Dock.assertStop hlive heq, hasserted, fun c hforced => ?_,
      fun d => ?_⟩
    · rw [hlevels c, hasserted, effectiveLevel, if_pos (.inr ⟨rfl, hforced⟩)]
    · have hdoors : s.dock.assertStop.doors =
          (((s.dock.setPlantStop true).raise .plantStop .site).doorsPlantStop).doors := by rw [heq]; simp
      rw [hdoors]; exact Dock.doorsPlantStop_travel d
  · have heq := Dock.releaseStop_asserted hstop
    exact ⟨event_of_live (s := { s with plantLine := false }) Dock.releaseStop hlive heq, by
      rw [heq]; simp [Dock.setPlantStop_plantStop]⟩

end Sys2Proof.Machine

/-! PROOFS. What slot grants, feeds and state entries leave alone: of a defrost record everything but phase, gate,
slot and the timers of a grant, and of the channels those of the doors. From it, what a door's change of state
writes. -/

namespace Sys2Proof.Machine

/-! ### What a grant leaves alone (R113, R116, R120) -/

/-- A defrost record with the fields that the slot arbiter and the clear-zone test write set aside. -/
def Defrost.settled (df : Defrost) : Defrost :=
  { df with phase := .cooling, gate := .open, slot := false, deferral := none, duration := none }

/-- The defrost records so set aside, and the channels of the doors. -/
def Dock.ungranted (k : Dock) : Table Defrost 8 × (Fin 32 → Channel) :=
  (k.defrosts.map Defrost.settled, fun j => k.channels[(⟨j.val, by omega⟩ : Fin 48)])

namespace Dock

variable {k k' : Dock}

theorem ungranted_of_fields (hdefrosts : k'.defrosts = k.defrosts) (hchannels : k'.channels = k.channels) :
    k'.ungranted = k.ungranted := by simp only [ungranted, hdefrosts, hchannels]

theorem defrost_of_ungranted (h : k'.ungranted = k.ungranted) (z : Fin 8) :
    (k'.defrosts[z]).settled = (k.defrosts[z]).settled := by
  have htable := congrArg (fun t : Table Defrost 8 × (Fin 32 → Channel) => t.1[z]) h
  simpa [ungranted] using htable

theorem channel_of_ungranted (h : k'.ungranted = k.ungranted) {j : Fin 48} (hj : j.val < 32) :
    k'.channels[j] = k.channels[j] := congrArg (fun t : Table Defrost 8 × (Fin 32 → Channel) => t.2 ⟨j.val, hj⟩) h

/-- The defrost part of `ungranted` after a write of one record. -/
theorem settled_modDefrost (z y : Fin 8) (f : Defrost → Defrost) :
    ((k.modDefrost z f).defrosts[y]).settled =
      if z = y then (f k.defrosts[y]).settled else (k.defrosts[y]).settled := by
  rw [modDefrost_defrosts, tmod_get]
  split <;> rfl

theorem modDefrost_ungranted (z : Fin 8) {f : Defrost → Defrost} (hf : ∀ df, (f df).settled = df.settled) :
    (k.modDefrost z f).ungranted = k.ungranted := by
  refine Prod.ext ?_ rfl
  ext i hi : 1
  have hrecord := settled_modDefrost (k := k) z ⟨i, hi⟩ f
  simp only [hf, ite_self] at hrecord
  simpa [ungranted] using hrecord

@[simp] theorem modDefrost_phase_ungranted (z : Fin 8) (ph : Phase) (g : Gate) :
    (k.modDefrost z ({ · with phase := ph, gate := g })).ungranted = k.ungranted :=
  modDefrost_ungranted z (fun _ => rfl)

@[simp] theorem modDefrost_slot_ungranted (z : Fin 8) (b : Bool) :
    (k.modDefrost z ({ · with slot := b })).ungranted = k.ungranted := modDefrost_ungranted z (fun _ => rfl)

@[simp] theorem modDefrost_deferral_ungranted (z : Fin 8) (t : Option Nat) :
    (k.modDefrost z ({ · with deferral := t })).ungranted = k.ungranted := modDefrost_ungranted z (fun _ => rfl)

@[simp] theorem modDefrost_duration_ungranted (z : Fin 8) (t : Option Nat) :
    (k.modDefrost z ({ · with duration := t })).ungranted = k.ungranted := modDefrost_ungranted z (fun _ => rfl)

/-- R133: a command to a channel of a zone. -/
theorem command_ungranted {c : Fin 48} (hc : 32 ≤ c.val) (lv : Level) : (k.command c lv).ungranted = k.ungranted := by
  refine Prod.ext (by simp [ungranted]) (funext fun j => ?_)
  have hne : c ≠ ⟨j.val, by omega⟩ := fun h => by have := congrArg Fin.val h; simp only at this; omega
  exact command_other lv hne

theorem commandPhase_ungranted (z : Fin 8) : (k.commandPhase z).ungranted = k.ungranted := by
  unfold commandPhase
  rw [command_ungranted (by simp [fansOf]; omega), command_ungranted (by simp [heaterOf])]

theorem enterPhase_ungranted (z : Fin 8) (ph : Phase) : (k.enterPhase z ph).ungranted = k.ungranted := by
  calc (k.enterPhase z ph).ungranted
      = ((k.modDefrost z ({ · with phase := ph, gate := ph.gate })).commandPhase z).ungranted :=
        ungranted_of_fields (by simp [enterPhase]) (by simp [enterPhase])
    _ = k.ungranted := by rw [commandPhase_ungranted, modDefrost_phase_ungranted]

theorem clearTest_ungranted (z : Fin 8) : (k.clearTest z).ungranted = k.ungranted := by
  unfold clearTest
  split
  · rw [modDefrost_duration_ungranted, enterPhase_ungranted, modDefrost_deferral_ungranted]
  · rfl

theorem grant_ungranted (z : Fin 8) : (k.grant z).ungranted = k.ungranted := by
  rw [grant, clearTest_ungranted, modDefrost_deferral_ungranted, enterPhase_ungranted, modDefrost_slot_ungranted]

theorem arbiterLoop_ungranted (n : Nat) (k : Dock) : (arbiterLoop n k).ungranted = k.ungranted := by
  induction n generalizing k with
  | zero => rfl
  | succ n ih =>
    unfold arbiterLoop
    split
    · split
      · rfl
      · rw [ih, grant_ungranted]
    · rfl

theorem arbiter_ungranted : k.arbiter.ungranted = k.ungranted := arbiterLoop_ungranted 8 k

theorem dueTest_ungranted (z : Fin 8) : (k.dueTest z).ungranted = k.ungranted := by
  unfold dueTest
  split
  · rw [enterDue, arbiter_ungranted, enterPhase_ungranted]
  · rfl

/-! ### What a feed and a door's passage leave alone (R81, R82, R109, R118) -/

theorem addFrost_ungranted (z : Fin 8) (n : Nat) : (k.addFrost z n).ungranted =
    (k.modDefrost z (fun df => { df with frost := min Config.wordMax (df.frost + n) })).ungranted :=
  dueTest_ungranted z

theorem changeMoves_ungranted (z : Fin 8) (f : Nat → Nat) : (k.changeMoves z f).ungranted =
    (k.modDefrost z (fun df => { df with moves := f df.moves })).ungranted := clearTest_ungranted z

theorem changeOpenDoors_ungranted (z : Fin 8) (f : Nat → Nat) : (k.changeOpenDoors z f).ungranted =
    (k.modDefrost z (fun df => { df with openDoors := f df.openDoors })).ungranted := clearTest_ungranted z

/-! R82: a feed, by the door's dock zone. -/

theorem feed_unset {d : Fin 16} (h : (k.doors[d]).config.dockZone = none) :
    k.feed d = k.modDoor d ({ · with openStamp := k.running }) := by
  unfold feed; dsimp only; rw [h]

theorem feed_set {d : Fin 16} {z : Fin 8} (h : (k.doors[d]).config.dockZone = some z) :
    k.feed d = (k.modDoor d ({ · with openStamp := k.running })).addFrost z
      ((k.running - (k.doors[d]).openStamp) * (k.doors[d]).config.weight) := by
  unfold feed; dsimp only; rw [h]

section DoorChannels

variable {j : Fin 48} (hj : j.val < 32)
include hj

theorem addFrost_channel (z : Fin 8) (n : Nat) : (k.addFrost z n).channels[j] = k.channels[j] :=
  channel_of_ungranted (addFrost_ungranted z n) hj

theorem changeOpenDoors_channel (z : Fin 8) (f : Nat → Nat) : (k.changeOpenDoors z f).channels[j] = k.channels[j] :=
  channel_of_ungranted (changeOpenDoors_ungranted z f) hj

theorem feed_channel (d : Fin 16) : (k.feed d).channels[j] = k.channels[j] := by
  cases hzone : (k.doors[d]).config.dockZone with
  | none => rw [feed_unset hzone]; rfl
  | some z => rw [feed_set hzone, addFrost_channel hj]; rfl

theorem tellOpenDoors_channel (d : Fin 16) (f : Nat → Nat) : (k.tellOpenDoors d f).channels[j] = k.channels[j] := by
  unfold tellOpenDoors
  split
  · rfl
  · exact changeOpenDoors_channel hj _ f

theorem accrueTrailer_channel (d : Fin 16) : (k.accrueTrailer d).channels[j] = k.channels[j] := by
  rw [show (k.accrueTrailer d).channels = k.channels by simp]

theorem leaveSet_channel (d : Fin 16) : (k.leaveSet d).channels[j] = k.channels[j] := by
  rw [leaveSet, tellOpenDoors_channel hj, feed_channel hj, accrueTrailer_channel hj]

theorem joinSet_channel (d : Fin 16) : (k.joinSet d).channels[j] = k.channels[j] := by
  rw [joinSet, tellOpenDoors_channel hj]
  exact accrueTrailer_channel hj d

end DoorChannels

/-! ### Passages and entries, door by door (R80, R81) -/

theorem feed_doors (d : Fin 16) : (k.feed d).doors = tmod k.doors d ({ · with openStamp := k.running }) := by
  simp only [feed]
  split <;> simp

theorem leaveSet_doors (d : Fin 16) : (k.leaveSet d).doors = tmod k.doors d ({ · with openStamp := k.running }) := by
  simp [leaveSet, feed_doors]

theorem joinSet_doors (d : Fin 16) : (k.joinSet d).doors = tmod k.doors d ({ · with openStamp := k.running }) := by
  simp [joinSet]

end Dock

/-- R80, R81, R87, R99: a door's record after its change of state. -/
def Door.enter (dr : Door) (new : DoorState) (plantStop : Bool) (now : Nat) : Door :=
  { dr with
    state := new
    timers := timersOn dr.state new dr.closeRequested plantStop now dr.timers
    sealLost := dr.sealLost && decide (new ≠ .inflating)
    closeRequested := dr.closeRequested && decide (new ≠ .fault)
    openStamp := if dr.state.notClosed = new.notClosed then dr.openStamp else now }

theorem tmod_tmod {α : Type} {n : Nat} (t : Table α n) (i : Fin n) (f g : α → α) :
    tmod (tmod t i f) i g = tmod t i (fun a => g (f a)) := by
  ext j hj : 1
  have hget (u : Table α n) (h : α → α) : (tmod u i h)[j] = if i = ⟨j, hj⟩ then h u[j] else u[j] :=
    tmod_get u i ⟨j, hj⟩ h
  rw [hget, hget, hget]
  split <;> rfl

/-- A record written by two functions that agree on it. -/
theorem tmod_congr {α : Type} {n : Nat} {t : Table α n} {i : Fin n} {f g : α → α} (h : f t[i] = g t[i]) :
    tmod t i f = tmod t i g := by
  unfold tmod; rw [h]

namespace Dock

variable {k k' : Dock}

theorem changeState_doors (d : Fin 16) (new : DoorState) :
    (k.changeState d new).doors = tmod k.doors d (·.enter new k.plantStop k.running) := by
  unfold changeState
  dsimp only
  split
  next hleave =>
    rw [enterState_doors, leaveSet_doors, tmod_tmod]
    exact tmod_congr (by simp only [Door.enter, hleave.1, hleave.2, Bool.true_eq_false, if_false,
      tmod_same, leaveSet_frame])
  next =>
    split
    next hjoin =>
      rw [enterState_doors, joinSet_doors, tmod_tmod]
      exact tmod_congr (by simp only [Door.enter, hjoin.1, hjoin.2, Bool.false_eq_true, if_false,
      tmod_same, joinSet_frame])
    next hleave hjoin =>
      have hsame : (k.doors[d]).state.notClosed = new.notClosed := by
        revert hleave hjoin
        cases (k.doors[d]).state.notClosed <;> cases new.notClosed <;> simp
      rw [enterState_doors]
      exact tmod_congr (by simp only [Door.enter, hsame, if_true])

theorem changeState_door (d : Fin 16) (new : DoorState) :
    (k.changeState d new).doors[d] = (k.doors[d]).enter new k.plantStop k.running := by
  rw [changeState_doors, tmod_same]

theorem changeState_door_other {d e : Fin 16} (new : DoorState) (h : d ≠ e) :
    (k.changeState d new).doors[e] = k.doors[e] := by
  rw [changeState_doors, tmod_ne _ _ h]

end Dock

/-! ### The levels of a state (R80, R136) -/

theorem blowerOf_ne_driveOf (d : Fin 16) : blowerOf d ≠ driveOf d := fun h => by
  have := congrArg Fin.val h
  simp only [blowerOf, driveOf] at this
  omega

theorem blowerOf_lt (d : Fin 16) : (blowerOf d).val < 32 := by simp only [blowerOf]; omega

theorem driveOf_lt (d : Fin 16) : (driveOf d).val < 32 := by simp only [driveOf]; omega

namespace Dock

variable {k : Dock}

/-- R136: the drive of a door after the levels of the door's state have been commanded. -/
theorem commandDoor_drive {d : Fin 16} {lv : Level} (howner : (k.channels[driveOf d]).owner = .sequencer)
    (hlv : (k.doors[d]).state.drive = some lv) :
    ((k.commandDoor d).channels[driveOf d]).latch = lv ∧ ((k.commandDoor d).channels[driveOf d]).armed = true := by
  cases hblower : (k.doors[d]).state.blower (k.channels[blowerOf d]).latch with
  | none => simp only [commandDoor, hlv, hblower]; exact command_same howner
  | some l =>
    simp only [commandDoor, hlv, hblower]
    exact command_same (by rw [command_other _ (blowerOf_ne_driveOf d), howner])

/-- R136: its blower likewise. -/
theorem commandDoor_blower {d : Fin 16} {lv : Level} (howner : (k.channels[blowerOf d]).owner = .sequencer)
    (hlv : (k.doors[d]).state.blower (k.channels[blowerOf d]).latch = some lv) :
    ((k.commandDoor d).channels[blowerOf d]).latch = lv ∧ ((k.commandDoor d).channels[blowerOf d]).armed = true := by
  cases hdrive : (k.doors[d]).state.drive with
  | none => simp only [commandDoor, hlv, hdrive]; exact command_same howner
  | some l =>
    simp only [commandDoor, hlv, hdrive]
    rw [command_other _ (blowerOf_ne_driveOf d).symm]
    exact command_same howner

/-- R81: the passage, if any, that a change of state makes. -/
def passage (k : Dock) (d : Fin 16) (new : DoorState) : Dock :=
  if (k.doors[d]).state.notClosed = true ∧ new.notClosed = false then k.leaveSet d
  else if (k.doors[d]).state.notClosed = false ∧ new.notClosed = true then k.joinSet d
  else k

theorem changeState_eq (d : Fin 16) (new : DoorState) : k.changeState d new = (k.passage d new).enterState d new := rfl

theorem passage_channel {j : Fin 48} (hj : j.val < 32) (d : Fin 16) (new : DoorState) :
    (k.passage d new).channels[j] = k.channels[j] := by
  unfold passage
  split
  · exact leaveSet_channel hj d
  · split
    · exact joinSet_channel hj d
    · rfl

/-- R80, R81: the record of a door that enters a state, before its levels are commanded. -/
def writeState (k : Dock) (d : Fin 16) (new : DoorState) : Dock :=
  k.modDoor d (fun dr =>
    { dr with
      state := new
      timers := timersOn (k.doors[d]).state new dr.closeRequested k.plantStop k.running dr.timers
      sealLost := dr.sealLost && decide (new ≠ .inflating)
      closeRequested := dr.closeRequested && decide (new ≠ .fault) })

theorem enterState_channels (d : Fin 16) (new : DoorState) :
    (k.enterState d new).channels = ((k.writeState d new).commandDoor d).channels := by
  simp only [enterState, notify_frame]
  rfl

theorem writeState_state (d : Fin 16) (new : DoorState) : ((k.writeState d new).doors[d]).state = new := by
  rw [writeState, modDoor_doors, tmod_same]

end Dock

/-- Settles O39: the door's record is `Door.enter`, and its levels are commanded last. -/
theorem doorStateEntry : Obligations.DoorStateEntry := by
  intro k d st k'
  have hdoor : k'.doors[d] = (k.doors[d]).enter st k.plantStop k.running := Dock.changeState_door d st
  have hchannel {j : Fin 48} (hj : j.val < 32) : (k.passage d st).channels[j] = k.channels[j] :=
    Dock.passage_channel hj d st
  have hk' : k'.channels = (((k.passage d st).writeState d st).commandDoor d).channels := Dock.enterState_channels d st
  have hstate := Dock.writeState_state (k := k.passage d st) d st
  have hsame : ((k.passage d st).writeState d st).channels = (k.passage d st).channels := rfl
  refine ⟨by rw [hdoor]; rfl, fun lv howner hlv => ?_, fun lv howner hlv => ?_, by rw [hdoor]; rfl, by rw [hdoor]; rfl,
    by rw [hdoor]; rfl, fun j hj => Dock.changeState_door_other st hj.symm⟩
  · rw [hk']
    exact Dock.commandDoor_drive (by rw [hsame, hchannel (driveOf_lt d), howner]) (by rw [hstate, hlv])
  · rw [hk']
    exact Dock.commandDoor_blower (by rw [hsame, hchannel (blowerOf_lt d), howner])
      (by rw [hstate, hsame, hchannel (blowerOf_lt d), hlv])

end Sys2Proof.Machine

/-! PROOFS. The Door Sequencer (Chapter 4): its requests, its timers, and where a door node report takes a door. -/

namespace Sys2Proof.Machine

/-! ### SET_DOOR and ASSIGN_TRAILER (R77, R85) -/

namespace Dock

variable {k : Dock} {d : Fin 16}

theorem setDoor_kept {a : SetDoor} {z : Fin 8} (hd : a.door = idx d) (hz : a.dockZone = idx z)
    (hok : doorConfigOk a = true) (hdoor : k.doorFitted d = true) (hzone : k.zoneFitted z = true)
    (hkind : (k.zones[z]).kind = .dock) (hsame : (k.doors[d]).config.dockZone = some z) {k' : Dock}
    (hk' : k.modDoor d ({ · with config := doorConfigOf a z }) = k') :
    k.setDoor a = accept k' (k'.doorConfigBytes d) := by
  simp only [setDoor, hd, hz, indexOf_idx (by decide : 16 ≤ 256), indexOf_idx (by decide : 8 ≤ 256), hok, hdoor, hzone,
    and_self, not_true_eq_false, if_false, hkind, ne_eq, hsame, decide_false, Bool.false_eq_true, false_and, hk']

theorem setDoor_moved {a : SetDoor} {z : Fin 8} (hd : a.door = idx d) (hz : a.dockZone = idx z)
    (hok : doorConfigOk a = true) (hdoor : k.doorFitted d = true) (hzone : k.zoneFitted z = true)
    (hkind : (k.zones[z]).kind = .dock) (hother : (k.doors[d]).config.dockZone ≠ some z)
    (hclosed : (k.doors[d]).state.notClosed = false) (hfree : k.spotWaiting (.trailer d) = false) {k' : Dock}
    (hk' : (k.accrueTrailer d).modDoor d ({ · with config := doorConfigOf a z }) = k') :
    k.setDoor a = accept k' (k'.doorConfigBytes d) := by
  simp only [setDoor, hd, hz, indexOf_idx (by decide : 16 ≤ 256), indexOf_idx (by decide : 8 ≤ 256), hok, hdoor, hzone,
    and_self, not_true_eq_false, if_false, hkind, ne_eq, hother, not_false_eq_true, decide_true, hclosed, hfree,
    Bool.false_eq_true, or_self, and_false, if_true, hk']

theorem assignTrailer_accepted {a : AssignTrailer} {dir : Direction} (hd : a.door = idx d)
    (hdir : directionOf a.direction a.capacity = some dir) (hdoor : k.doorFitted d = true)
    (hstate : (k.doors[d]).state = .arrived) :
    k.assignTrailer a = accept ((k.modDoor d
      ({ · with trailer := some { id := a.trailerId, direction := dir } })).changeState d .assigned) := by
  simp only [assignTrailer, hd, indexOf_idx (by decide : 16 ≤ 256), hdir, hdoor, Bool.true_eq_false, if_false, hstate,
    ne_eq, not_true_eq_false]

end Dock

/-- Settles O36. -/
theorem doorSettings : Obligations.DoorSettings := fun _ _ _ _ =>
  ⟨fun a _ h hd hz hok hdoor hzone hkind =>
      ⟨fun hsame => exec_of_ready_dock (·.setDoor a) h rfl (Dock.setDoor_kept hd hz hok hdoor hzone hkind hsame rfl),
        fun hother hclosed hfree => exec_of_ready_dock (·.setDoor a) h rfl
          (Dock.setDoor_moved hd hz hok hdoor hzone hkind hother hclosed hfree rfl)⟩,
    fun a _ h hd hdir hdoor hstate =>
      exec_of_ready_dock (·.assignTrailer a) h rfl (Dock.assignTrailer_accepted hd hdir hdoor hstate)⟩

/-! ### The rows of a close (R92, R93) -/

namespace Dock

variable {k : Dock} {d : Fin 16}

theorem takeClose_open (h : (k.doors[d]).state = .open) : k.takeClose d =
    (k.modDoor d ({ · with closeRequested := true })).changeState d
      (if (k.doors[d]).through = 0 then .closing else .closePending) := by
  unfold takeClose; dsimp only; rw [h]; rfl

theorem takeClose_opening_first (h : (k.doors[d]).state = .opening) (hretry : (k.doors[d]).retry = 0) :
    k.takeClose d = (k.modDoor d ({ · with closeRequested := true })).changeState d .closing := by
  unfold takeClose; dsimp only; rw [h]; exact if_pos hretry

theorem takeClose_opening_retried (h : (k.doors[d]).state = .opening)
    (hretry : (k.doors[d]).retry = 1 ∨ (k.doors[d]).retry = 2) : k.takeClose d = k := by
  unfold takeClose; dsimp only; rw [h]; dsimp only
  rw [if_neg (by omega), if_neg (by omega)]

theorem takeClose_opening_last (h : (k.doors[d]).state = .opening) (hretry : (k.doors[d]).retry = 3) :
    k.takeClose d = k.modDoor d ({ · with closeRequested := true }) := by
  unfold takeClose; dsimp only; rw [h]; dsimp only
  rw [if_neg (by omega), if_pos hretry]

theorem takeClose_other (hopen : (k.doors[d]).state ≠ .open) (hopening : (k.doors[d]).state ≠ .opening) :
    k.takeClose d = k := by
  unfold takeClose; dsimp only
  split
  next hstate => exact absurd hstate hopen
  next hstate => exact absurd hstate hopening
  next => rfl

/-- R92: what a close request leaves in the record of the door that it takes into another state than FAULT. -/
theorem closeRequested_changeState {new : DoorState} (hnew : new ≠ .fault) :
    (((k.modDoor d ({ · with closeRequested := true })).changeState d new).doors[d]).closeRequested = true := by
  rw [changeState_door, modDoor_doors, tmod_same]
  simp [Door.enter, hnew]

theorem reclose_changeState {new : DoorState} (hnew : new ≠ .open) :
    ((k.changeState d new).doors[d]).timers.reclose = none := by
  rw [changeState_door]
  simp [Door.enter, timersOn, hnew]

/-! ### DOCK, UNDOCK, OPEN_DOOR and CLOSE_DOOR (R87 to R89, R92) -/

variable (hdoor : k.doorFitted d = true)
include hdoor

theorem dockDoor_accepted (hstate : (k.doors[d]).state = .assigned ∨ (k.doors[d]).state = .released)
    (hzone : (k.doors[d]).config.dockZone ≠ none) : k.dockDoor (idx d) = accept (k.changeState d .inflating) := by
  have hengaged : ¬ ((k.doors[d]).state ≠ .assigned ∧ (k.doors[d]).state ≠ .released) := by
    rcases hstate with h | h <;> simp only [h] <;> decide
  unfold dockDoor
  rw [doorOf_idx hdoor]
  dsimp only
  rw [if_neg hengaged, if_neg hzone]

theorem undockDoor_sealed (h : (k.doors[d]).state = .sealed) :
    k.undockDoor (idx d) = accept (k.changeState d .deflating) := by
  unfold undockDoor; rw [doorOf_idx hdoor]; dsimp only; rw [h]

theorem undockDoor_assigned (h : (k.doors[d]).state = .assigned) :
    k.undockDoor (idx d) = accept (k.changeState d .released) := by
  unfold undockDoor; rw [doorOf_idx hdoor]; dsimp only; rw [h]

theorem undockDoor_released (h : (k.doors[d]).state = .released) : k.undockDoor (idx d) = accept k := by
  unfold undockDoor; rw [doorOf_idx hdoor]; dsimp only; rw [h]

theorem openDoor_held (h : k.plantStop = true) : k.openDoor (idx d) = refuse k .held := by
  unfold openDoor; rw [doorOf_idx hdoor]; dsimp only; rw [if_pos h]

theorem openDoor_accepted {z : Fin 8} (hstop : k.plantStop = false) (hstate : (k.doors[d]).state = .sealed)
    (hpressure : (k.doors[d]).config.hold ≤ (k.doors[d]).pressure)
    (hzone : (k.doors[d]).config.dockZone = some z) (hholding : (k.defrosts[z]).phase ≠ .holding)
    (hdefrosting : (k.defrosts[z]).phase ≠ .defrosting) (hdripping : (k.defrosts[z]).phase ≠ .dripping) :
    k.openDoor (idx d) = accept (k.changeState d .opening) := by
  have hsealed : ¬ ((k.doors[d]).state ≠ .sealed ∨ (k.doors[d]).pressure < (k.doors[d]).config.hold) := by
    rintro (h | h)
    · exact h hstate
    · exact Nat.not_lt.mpr hpressure h
  unfold openDoor
  rw [doorOf_idx hdoor]
  dsimp only
  rw [if_neg (by rw [hstop]; decide), if_neg hsealed, hzone]
  dsimp only
  cases hphase : (k.defrosts[z]).phase with
  | holding => exact absurd hphase hholding
  | defrosting => exact absurd hphase hdefrosting
  | dripping => exact absurd hphase hdripping
  | _ => rfl

variable (hstop : k.plantStop = false)
include hstop

theorem closeDoor_open (h : (k.doors[d]).state = .open) : k.closeDoor (idx d) =
    (k.takeClose d, { status := if (k.doors[d]).through = 0 then .ok else .pending }) := by
  unfold closeDoor; rw [doorOf_idx hdoor]; dsimp only; rw [if_neg (by rw [hstop]; decide), h]

theorem closeDoor_opening (h : (k.doors[d]).state = .opening) : k.closeDoor (idx d) =
    (k.takeClose d, { status := if (k.doors[d]).retry = 0 then .ok else .pending }) := by
  unfold closeDoor; rw [doorOf_idx hdoor]; dsimp only; rw [if_neg (by rw [hstop]; decide), h]

theorem closeDoor_closePending (h : (k.doors[d]).state = .closePending) :
    k.closeDoor (idx d) = (k, { status := .pending }) := by
  unfold closeDoor; rw [doorOf_idx hdoor]; dsimp only; rw [if_neg (by rw [hstop]; decide), h]

theorem closeDoor_closing (h : (k.doors[d]).state = .closing) : k.closeDoor (idx d) = accept k := by
  unfold closeDoor; rw [doorOf_idx hdoor]; dsimp only; rw [if_neg (by rw [hstop]; decide), h]

end Dock

/-- Settles O37: each row is a branch of its request, and the closes share the rows of `takeClose`. -/
theorem doorMotionRequests : Obligations.DoorMotionRequests := by
  intro s l tag d hdoor dr
  refine ⟨fun h hstate hzone => ?_, fun h hstate => ?_, fun h hstate => ?_, fun h hstate => ?_,
    fun h hstop hstate hpressure z hzone hholding hdefrosting hdripping => ?_, fun h hstop => ?_,
    fun h hstop hstate hthrough => ?_, fun h hstop hstate hthrough => ?_, fun h hstop hstate hretry => ?_,
    fun h hstop hstate hretry => ?_, fun h hstop hstate hretry => ?_, fun h hstop hstate => ?_,
    fun h hstop hstate => ?_, ?_⟩
  · exact exec_of_ready_dock (·.dockDoor (idx d)) h rfl (Dock.dockDoor_accepted hdoor hstate hzone)
  · exact exec_of_ready_dock (·.undockDoor (idx d)) h rfl (Dock.undockDoor_sealed hdoor hstate)
  · exact exec_of_ready_dock (·.undockDoor (idx d)) h rfl (Dock.undockDoor_assigned hdoor hstate)
  · exact exec_of_ready_dock (·.undockDoor (idx d)) h rfl (Dock.undockDoor_released hdoor hstate)
  · exact exec_of_ready_dock (·.openDoor (idx d)) h rfl
      (Dock.openDoor_accepted hdoor hstop hstate hpressure hzone hholding hdefrosting hdripping)
  · exact exec_of_ready_dock (·.openDoor (idx d)) h rfl (Dock.openDoor_held hdoor hstop)
  · exact exec_of_ready_dock (·.closeDoor (idx d)) h rfl (by
      rw [Dock.closeDoor_open hdoor hstop hstate, Dock.takeClose_open hstate, if_pos hthrough, if_pos hthrough])
  · exact exec_of_ready_dock (·.closeDoor (idx d)) h rfl (by
      rw [Dock.closeDoor_open hdoor hstop hstate, Dock.takeClose_open hstate, if_neg hthrough, if_neg hthrough])
  · exact exec_of_ready_dock (·.closeDoor (idx d)) h rfl (by
      rw [Dock.closeDoor_opening hdoor hstop hstate, Dock.takeClose_opening_first hstate hretry, if_pos hretry])
  · have hnot : (s.dock.doors[d]).retry ≠ 0 := by
      have hraised : (s.dock.doors[d]).retry = 1 ∨ (s.dock.doors[d]).retry = 2 := hretry
      omega
    exact exec_of_ready_dock (·.closeDoor (idx d)) h rfl (by
      rw [Dock.closeDoor_opening hdoor hstop hstate, Dock.takeClose_opening_retried hstate hretry, if_neg hnot])
  · have hnot : (s.dock.doors[d]).retry ≠ 0 := by
      have hlast : (s.dock.doors[d]).retry = 3 := hretry
      omega
    exact exec_of_ready_dock (·.closeDoor (idx d)) h rfl (by
      rw [Dock.closeDoor_opening hdoor hstop hstate, Dock.takeClose_opening_last hstate hretry, if_neg hnot])
  · exact exec_of_ready_dock (·.closeDoor (idx d)) h rfl (Dock.closeDoor_closePending hdoor hstop hstate)
  · exact exec_of_ready_dock (·.closeDoor (idx d)) h rfl (Dock.closeDoor_closing hdoor hstop hstate)
  · refine ⟨fun hstate => ?_, fun hstate hretry => ?_, fun hstate hretry => ?_, fun hstate hretry => ?_,
      fun hopen hopening => ?_⟩
    · have hclose := Dock.takeClose_open hstate
      refine ⟨hclose, ?_, ?_⟩
      · rw [hclose]; exact Dock.closeRequested_changeState (by split <;> decide)
      · rw [hclose]; exact Dock.reclose_changeState (by split <;> decide)
    · have hclose := Dock.takeClose_opening_first hstate hretry
      exact ⟨hclose, by rw [hclose]; exact Dock.closeRequested_changeState (by decide)⟩
    · exact Dock.takeClose_opening_retried hstate hretry
    · exact Dock.takeClose_opening_last hstate hretry
    · exact Dock.takeClose_other hopen hopening

/-! ### SERVICE_DOOR and RETURN_DOOR (R100, R103, R138) -/

namespace Dock

variable {k : Dock} {d : Fin 16} (hdoor : k.doorFitted d = true)
include hdoor

theorem serviceDoor_accepted (h : (k.doors[d]).state = .fault ∨ (k.doors[d]).state = .vacant ∨
    (k.doors[d]).state = .arrived ∨ (k.doors[d]).state = .assigned) :
    k.serviceDoor (idx d) = accept (k.changeState d .outOfService) := by
  unfold serviceDoor
  rw [doorOf_idx hdoor]
  dsimp only
  rcases h with h | h | h | h
  all_goals rw [h]

theorem returnDoor_accepted (h : (k.doors[d]).state = .outOfService) : k.returnDoor (idx d) =
    accept (((((k.returnChannel (blowerOf d)).returnChannel (driveOf d)).changeState d .resync).clearCondition
      .trailerLeft (.door d)).clearCondition .doorTravel (.door d)) := by
  unfold returnDoor
  rw [doorOf_idx hdoor]
  dsimp only
  rw [if_neg (by rw [h]; decide)]

end Dock

/-- Settles O38. -/
theorem serviceAndReturnDoor : Obligations.ServiceAndReturnDoor := by
  intro s l tag d hdoor st
  refine ⟨fun h hstate => ?_, fun h hstate => ?_⟩
  · exact exec_of_ready_dock (·.serviceDoor (idx d)) h rfl (Dock.serviceDoor_accepted hdoor hstate)
  · have hblower := Dock.returnChannel_same (k := s.dock) (c := blowerOf d)
    have hdrive := Dock.returnChannel_same (k := s.dock.returnChannel (blowerOf d)) (c := driveOf d)
    have hleft := Dock.returnChannel_other (k := s.dock.returnChannel (blowerOf d)) (blowerOf_ne_driveOf d).symm
    refine ⟨exec_of_ready_dock (·.returnDoor (idx d)) h rfl (Dock.returnDoor_accepted hdoor hstate), ?_, hdrive.1, ?_,
      hdrive.2⟩
    · rw [hleft]; exact hblower.1
    · rw [hleft]; exact hblower.2

/-! ### The timers of a door (R87, R88, R90, R94, R97, R98) -/

namespace Dock

variable {k : Dock} {d : Fin 16} {start : Nat}

theorem inflateExpiry_due (h : (k.doors[d]).timers.inflate = some start)
    (hdue : start + (k.doors[d]).config.inflateTimeout ≤ k.running) :
    k.inflateExpiry d = (k.changeState d .assigned).raise .sealFailed (.door d) := by
  unfold inflateExpiry; rw [h, due_of_le hdue, if_pos rfl]

theorem deflateExpiry_due (h : (k.doors[d]).timers.deflate = some start) (hdue : start + 20 ≤ k.running) :
    k.deflateExpiry d = k.changeState d .released := by
  unfold deflateExpiry; rw [h, due_of_le (show start + Config.deflateTime ≤ k.running from hdue), if_pos rfl]

theorem travelExpiry_due (h : (k.doors[d]).timers.travel = some start)
    (hdue : start + (k.doors[d]).config.travelTimeout ≤ k.running) :
    k.travelExpiry d = (k.raise .doorTravel (.door d)).changeState d .fault := by
  unfold travelExpiry; rw [h, due_of_le hdue, if_pos rfl]

theorem recloseExpiry_due (h : (k.doors[d]).timers.reclose = some start) (hdue : start + 5 ≤ k.running) :
    k.recloseExpiry d = (k.modTimers d ({ · with reclose := none })).takeClose d := by
  unfold recloseExpiry; rw [h, due_of_le (show start + Config.recloseTime ≤ k.running from hdue), if_pos rfl]

theorem closeWaitExpiry_due (h : (k.doors[d]).timers.closeWait = some start)
    (hdue : start + (k.doors[d]).config.closeWait ≤ k.running) :
    k.closeWaitExpiry d = ((k.cancelThrough d).raise .closeForced (.door d)).closeOrFault d := by
  unfold closeWaitExpiry; rw [h, due_of_le hdue, if_pos rfl]

theorem leakExpiry_due (h : (k.doors[d]).timers.leakGrace = some start)
    (hdue : start + (k.doors[d]).config.leakGrace ≤ k.running) {k1 : Dock}
    (hk1 : ((k.modTimers d ({ · with leakGrace := none })).modDoor d ({ · with sealLost := true })).raise .sealLost
      (.door d) = k1) :
    k.leakExpiry d = if (k.doors[d]).state = .sealed then k1.changeState d .inflating else k1.takeClose d := by
  unfold leakExpiry; rw [h, due_of_le hdue, if_pos rfl, hk1]

end Dock

/-- Settles O41. -/
theorem doorTimersExpire : Obligations.DoorTimersExpire := fun _ d _ hlive =>
  ⟨fun h hdue => event_of_live (·.inflateExpiry d) hlive (Dock.inflateExpiry_due h hdue),
    fun h hdue => event_of_live (·.deflateExpiry d) hlive (Dock.deflateExpiry_due h hdue),
    fun h hdue => event_of_live (·.travelExpiry d) hlive (Dock.travelExpiry_due h hdue),
    fun h hdue => event_of_live (·.recloseExpiry d) hlive (Dock.recloseExpiry_due h hdue),
    fun h hdue => event_of_live (·.closeWaitExpiry d) hlive (Dock.closeWaitExpiry_due h hdue),
    fun h hdue hstate =>
      event_of_live (·.leakExpiry d) hlive ((Dock.leakExpiry_due h hdue rfl).trans (if_neg hstate)),
    fun h hdue hstate =>
      event_of_live (·.leakExpiry d) hlive ((Dock.leakExpiry_due h hdue rfl).trans (if_pos hstate))⟩

end Sys2Proof.Machine

/-! PROOFS. The requests and timers of the Defrost Controller (Chapter 5), the requests of the Hold Table (Chapter 8)
and SET_TERMINAL (Chapter 9), row by row. -/

namespace Sys2Proof.Machine

/-! ### The five defrost requests (R111, R115, R117, R129, R130) -/

namespace Dock

variable {k : Dock}

theorem setDefrost_accepted {a : SetDefrost} {z : Fin 8} (hz : a.zone = idx z) (hok : defrostFieldsOk a = true)
    (hzone : k.zoneFitted z = true) {k' : Dock}
    (hk' : (k.modDefrost z (fun df =>
      { df with
        config := defrostConfigOf a
        interval := df.interval || decide (df.config.maxInterval ≠ a.maxInterval.toNat) })).dueTest z = k') :
    k.setDefrost a = accept k' (k'.defrostRecord z) := by
  subst hk'
  simp only [setDefrost, hz, indexOf_idx (by decide : 8 ≤ 256), hok, hzone, Bool.true_eq_false, if_false]

/-- R116: no zone holds a slot. -/
theorem slotsHeld_eq_zero (h : ∀ z : Fin 8, (k.defrosts[z]).slot = false) : k.slotsHeld = 0 := by
  unfold slotsHeld
  rw [List.filter_eq_nil_iff.mpr (fun z _ => by rw [h z]; decide)]
  rfl

theorem setSlots_accepted {n : Byte} (hlow : 1 ≤ n.toNat) (hhigh : n.toNat ≤ 4)
    (h : ∀ z : Fin 8, (k.defrosts[z]).slot = false) :
    k.setSlots n = accept ({ k with slotLimit := n.toNat } : Dock).arbiter [n] := by
  have hrange : within 1 4 n.toNat = true := by simp [within, hlow, hhigh]
  unfold setSlots
  rw [if_neg (by rw [hrange]; decide), if_neg (by rw [slotsHeld_eq_zero h]; decide)]

section

variable {z : Fin 8} (hzone : k.zoneFitted z = true)
include hzone

theorem requestDefrost_cooling (h : (k.defrosts[z]).phase = .cooling) :
    k.requestDefrost (idx z) = accept ((k.enterPhase z .due).arbiter) := by
  unfold requestDefrost; rw [zoneOf_idx hzone]; dsimp only; rw [h]; rfl

theorem requestDefrost_due (h : (k.defrosts[z]).phase = .due) : k.requestDefrost (idx z) = accept k := by
  unfold requestDefrost; rw [zoneOf_idx hzone]; dsimp only; rw [h]

theorem requestDefrost_refused (hcooling : (k.defrosts[z]).phase ≠ .cooling) (hdue : (k.defrosts[z]).phase ≠ .due) :
    k.requestDefrost (idx z) = refuse k .badState := by
  unfold requestDefrost; rw [zoneOf_idx hzone]; dsimp only
  cases h : (k.defrosts[z]).phase with
  | cooling => exact absurd h hcooling
  | due => exact absurd h hdue
  | _ => rfl

theorem inhibitDefrost_accepted (h : (k.defrosts[z]).phase = .cooling ∨ (k.defrosts[z]).phase = .due) :
    k.inhibitDefrost (idx z) = accept (k.enterPhase z .inhibited) := by
  unfold inhibitDefrost; rw [zoneOf_idx hzone]; dsimp only
  rcases h with h | h
  all_goals rw [h]

theorem restoreDefrost_accepted (h : (k.defrosts[z]).phase = .inhibited) {k' : Dock}
    (hk' : (((k.returnManual (heaterOf z)).returnManual (fansOf z)).enterPhase z .cooling).dueTest z = k') :
    k.restoreDefrost (idx z) = accept k' [((k'.defrosts[z]).phase).code] := by
  subst hk'
  unfold restoreDefrost; rw [zoneOf_idx hzone]; dsimp only; rw [if_neg (by rw [h]; decide)]

end

end Dock

/-- Settles O43. -/
theorem defrostRequests : Obligations.DefrostRequests := fun _ _ _ z hzone =>
  ⟨fun a h hz hok => exec_of_ready_dock (·.setDefrost a) h rfl (Dock.setDefrost_accepted hz hok hzone rfl),
    fun n h hlow hhigh hslots => exec_of_ready_dock (·.setSlots n) h rfl (Dock.setSlots_accepted hlow hhigh hslots),
    fun h hphase => exec_of_ready_dock (·.requestDefrost (idx z)) h rfl (Dock.requestDefrost_cooling hzone hphase),
    fun h hphase => exec_of_ready_dock (·.requestDefrost (idx z)) h rfl (Dock.requestDefrost_due hzone hphase),
    fun h hcooling hdue =>
      exec_of_ready_dock (·.requestDefrost (idx z)) h rfl (Dock.requestDefrost_refused hzone hcooling hdue),
    fun h hphase => exec_of_ready_dock (·.inhibitDefrost (idx z)) h rfl (Dock.inhibitDefrost_accepted hzone hphase),
    fun h hphase =>
      exec_of_ready_dock (·.restoreDefrost (idx z)) h rfl (Dock.restoreDefrost_accepted hzone hphase rfl)⟩

/-! ### The timers of a zone's defrost (R114, R121, R124, R125, R127) -/

namespace Dock

variable {k : Dock} {z : Fin 8} {start : Nat}

theorem intervalExpiry_due (h : (k.defrosts[z]).interval = true)
    (hdue : (k.defrosts[z]).lastEnd + (k.defrosts[z]).config.maxInterval ≤ k.running) :
    k.intervalExpiry z = (k.modDefrost z ({ · with interval := false })).dueTest z := if_pos ⟨h, hdue⟩

/-! R121: the forcing writes the zone's defrost record and the alarm list alone. -/

theorem forcing_zones : ((k.modDefrost z ({ · with deferral := none, forcing := true })).raise
    .defrostForced (.zone z)).zones = k.zones := by simp

theorem forcing_doors : ((k.modDefrost z ({ · with deferral := none, forcing := true })).raise
    .defrostForced (.zone z)).doors = k.doors := by simp

theorem deferralExpiry_room (h : (k.defrosts[z]).deferral = some start)
    (hdue : start + (k.defrosts[z]).config.maxDeferral ≤ k.running) (hkind : (k.zones[z]).kind = .frozenRoom) :
    k.deferralExpiry z =
      (k.modDefrost z ({ · with deferral := none, forcing := true })).raise .defrostForced (.zone z) := by
  unfold deferralExpiry; rw [h, due_of_le hdue, if_pos rfl]; dsimp only
  rw [if_neg (by rw [forcing_zones, hkind]; decide)]

theorem deferralExpiry_dock (h : (k.defrosts[z]).deferral = some start)
    (hdue : start + (k.defrosts[z]).config.maxDeferral ≤ k.running) (hkind : (k.zones[z]).kind = .dock) :
    k.deferralExpiry z =
      ((List.finRange 16).filter (fun d => decide ((k.doors[d]).config.dockZone = some z))).foldl
        (fun k d => k.takeClose d)
        ((k.modDefrost z ({ · with deferral := none, forcing := true })).raise .defrostForced (.zone z)) := by
  unfold deferralExpiry; rw [h, due_of_le hdue, if_pos rfl]; dsimp only
  rw [if_pos (by rw [forcing_zones, hkind])]
  simp only [forcing_doors]

theorem durationExpiry_due (h : (k.defrosts[z]).duration = some start)
    (hdue : start + (k.defrosts[z]).config.maxDuration ≤ k.running) :
    k.durationExpiry z = (k.raise .defrostOverrun (.zone z)).enterDripping z := by
  unfold durationExpiry; rw [h, due_of_le hdue, if_pos rfl]

theorem dripExpiry_due (h : (k.defrosts[z]).drip = some start)
    (hdue : start + (k.defrosts[z]).config.dripTime ≤ k.running) : k.dripExpiry z = k.enterRecovery z := by
  unfold dripExpiry; rw [h, due_of_le hdue, if_pos rfl]

theorem recoveryExpiry_due (h : (k.defrosts[z]).recovery = some start)
    (hdue : start + (k.defrosts[z]).config.recoveryTimeout ≤ k.running) :
    k.recoveryExpiry z = (k.raise .recoveryLate (.zone z)).endDefrost z := by
  unfold recoveryExpiry; rw [h, due_of_le hdue, if_pos rfl]

end Dock

/-- Settles O44. -/
theorem defrostTimersExpire : Obligations.DefrostTimersExpire := fun _ z _ hlive =>
  ⟨fun h hdue => event_of_live (·.intervalExpiry z) hlive (Dock.intervalExpiry_due h hdue),
    fun h hdue hkind => event_of_live (·.deferralExpiry z) hlive (Dock.deferralExpiry_room h hdue hkind),
    fun h hdue hkind => event_of_live (·.deferralExpiry z) hlive (Dock.deferralExpiry_dock h hdue hkind),
    fun h hdue => event_of_live (·.durationExpiry z) hlive (Dock.durationExpiry_due h hdue),
    fun h hdue => event_of_live (·.dripExpiry z) hlive (Dock.dripExpiry_due h hdue),
    fun h hdue => event_of_live (·.recoveryExpiry z) hlive (Dock.recoveryExpiry_due h hdue)⟩

/-! ### TAKE_HOLD and DROP_HOLD (R164 to R166) -/

namespace State

variable {s : State} {l : Link} {b : Byte} {d : Fin 16} {st : Status}

theorem readBit_zero : readBit 0 = some false := rfl

theorem readBit_one : readBit 1 = some true := rfl

/-- R164: a door number out of range, or of a door that is not fitted. -/
theorem holdDoor_refused (h : 16 ≤ b.toNat ∧ st = .badArg ∨
    ∃ d : Fin 16, b = idx d ∧ s.dock.doorFitted d = false ∧ st = .noSuch) : s.holdDoor b = .error st := by
  unfold holdDoor Dock.doorOf
  rcases h with ⟨hrange, rfl⟩ | ⟨d, rfl, hunfitted, rfl⟩
  · rw [show indexOf 16 b = none from dif_neg (Nat.not_lt.mpr hrange)]
  · rw [indexOf_idx (by decide : 16 ≤ 256)]
    dsimp only
    rw [if_neg (by rw [hunfitted]; decide)]

theorem takeHold_refused (h : s.holdDoor b = .error st) : s.takeHold l b 0 = refuse s st := by
  simp only [takeHold, readBit_zero, h]

theorem takeHold_forced_refused (h : s.holdDoor b = .error st) : s.takeHold l b 1 = refuse s st := by
  simp only [takeHold, readBit_one, h]

theorem dropHold_refused (h : s.holdDoor b = .error st) : s.dropHold l b = refuse s st := by
  simp only [dropHold, h]

section

variable (hdoor : s.dock.doorFitted d = true)
include hdoor

theorem takeHold_fitted {h : Hold} {st : Status} (htake : (s.holds[d]).take l = (h, st)) :
    s.takeHold l (idx d) 0 = (s.modHold d (fun _ => h), { status := st, data := holdBytes d h }) := by
  unfold takeHold
  rw [readBit_zero]
  dsimp only
  rw [show s.holdDoor (idx d) = .ok d from Dock.doorOf_idx hdoor]
  dsimp only
  rw [htake]
  rfl

theorem takeHold_forced : s.takeHold l (idx d) 1 = accept (s.forceHold d) [idx d, 1, 0] := by
  have hholds : (s.forceHold d).holds = (s.modHold d (fun _ => Hold.forced)).holds := by
    unfold forceHold; dsimp only; split <;> rfl
  unfold takeHold
  rw [readBit_one]
  dsimp only
  rw [show s.holdDoor (idx d) = .ok d from Dock.doorOf_idx hdoor]
  dsimp only
  rw [hholds, show (s.modHold d (fun _ => Hold.forced)).holds[d] = Hold.forced from tmod_same _ _ _]
  rfl

theorem dropHold_held {h : Hold} (hdrop : (s.holds[d]).drop l = some h) : s.dropHold l (idx d) =
    accept ((s.modHold d (fun _ => h)).passNotice d s.holds[d] h l) (holdBytes d h) := by
  unfold dropHold
  rw [show s.holdDoor (idx d) = .ok d from Dock.doorOf_idx hdoor]
  dsimp only
  rw [hdrop]

theorem dropHold_notHolder (hdrop : (s.holds[d]).drop l = none) :
    s.dropHold l (idx d) = refuse s .notHolder := by
  unfold dropHold
  rw [show s.holdDoor (idx d) = .ok d from Dock.doorOf_idx hdoor]
  dsimp only
  rw [hdrop]

end

/-- A hold written as it stands. -/
theorem modHold_same {f : Hold → Hold} (h : f s.holds[d] = s.holds[d]) : s.modHold d f = s := by
  unfold modHold tmod
  rw [h, show s.holds.set d.val s.holds[d] d.isLt = s.holds from Vector.set_getElem_self d.isLt]

theorem modHold_congr {f g : Hold → Hold} (h : f s.holds[d] = g s.holds[d]) : s.modHold d f = s.modHold d g := by
  unfold modHold; rw [tmod_congr h]

/-- R165: the notice of a forced take, by the row that lost. -/
theorem forceHold_eq : s.forceHold d =
    if (s.holds[d]).holder = some .floor then
      (s.modHold d (fun _ => Hold.forced)).notifyLink .floor (.holdLost d (some .site) none .taken s.dock.siteTime)
    else if (s.holds[d]).pending = some .floor then
      (s.modHold d (fun _ => Hold.forced)).notifyLink .floor
        (.holdLost d (some .site) none .pendingDropped s.dock.siteTime)
    else s.modHold d (fun _ => Hold.forced) := by
  unfold forceHold Hold.lostReason
  dsimp only
  by_cases hholder : (s.holds[d]).holder = some .floor
  · rw [if_pos hholder, if_pos hholder]
  · rw [if_neg hholder, if_neg hholder]
    by_cases hpending : (s.holds[d]).pending = some .floor
    · rw [if_pos hpending, if_pos hpending]
    · rw [if_neg hpending, if_neg hpending]

/-! R166: the notice of a hold passed on. -/

section

variable {before after : Hold}

theorem passNotice_granted (hown : before.holder = some l) {w : Link} :
    s.passNotice d before ⟨some w, none⟩ l = s.notifyLink w (.holdGranted d (some w) none s.dock.siteTime) := by
  unfold passNotice; rw [hown]; exact if_pos rfl

theorem passNotice_freed (h : after.holder = none) : s.passNotice d before after l = s := by
  unfold passNotice
  rw [h]
  cases before.holder <;> rfl

theorem passNotice_withdrawn (h : before.holder ≠ some l) : s.passNotice d before after l = s := by
  unfold passNotice
  cases hholder : before.holder with
  | none => rfl
  | some a =>
    cases after.holder with
    | none => rfl
    | some w => exact if_neg (fun ha => h (by rw [hholder, ha]))

end

end State

/-- Settles O50: each row is a row of `Hold.take`, `Hold.forced` or `Hold.drop`. -/
theorem holdRequests : Obligations.HoldRequests := by
  refine ⟨fun s l tag b st hbad => ⟨fun h => ?_, fun h => ?_, fun h => ?_⟩, fun s tag b hlive hplace hdone => ?_,
    fun s l tag d hdoor => ?_⟩
  · exact exec_of_ready h (State.takeHold_refused (State.holdDoor_refused hbad))
  · exact exec_of_ready h (State.takeHold_forced_refused (State.holdDoor_refused hbad))
  · exact exec_of_ready h (State.dropHold_refused (State.holdDoor_refused hbad))
  · exact exec_of_linkRefusal (r := .takeHold b 1) tag hlive hplace rfl
      (by simp [State.linkRefusal, hdone, supervisorOnly])
  intro hold now taken
  refine ⟨fun h hfree => ?_, fun h hown => ?_, fun h hother => ?_, fun h => ?_, fun w h hown hwaits => ?_,
    fun h hown hnone => ?_, fun h hnot hwaits => ?_, fun h hnot hnotWaits => ?_⟩
  · exact exec_of_ready h (State.takeHold_fitted hdoor (if_pos hfree))
  · have htake : (s.holds[d]).take l = (s.holds[d], .ok) :=
      (if_neg (by rw [show (s.holds[d]).holder = some l from hown]; exact Option.some_ne_none l)).trans (if_pos hown)
    refine exec_of_ready h ((State.takeHold_fitted hdoor htake).trans ?_)
    rw [State.modHold_same rfl]
    rfl
  · have hholder : (s.holds[d]).holder = some (otherLink l) := hother
    have hne : (s.holds[d]).holder ≠ some l := by rw [hholder]; cases l <;> decide
    have htake : (s.holds[d]).take l = ({ s.holds[d] with pending := some l }, .pending) :=
      (if_neg (by rw [hholder]; exact Option.some_ne_none _)).trans (if_neg hne)
    refine exec_of_ready h ((State.takeHold_fitted hdoor htake).trans ?_)
    rw [State.modHold_congr (g := ({ · with pending := some l })) rfl]
    simp only [holdBytes, hholder]
  · refine exec_of_ready h ((State.takeHold_forced hdoor).trans ?_)
    rw [State.forceHold_eq]
    rfl
  · refine exec_of_ready h ((State.dropHold_held hdoor (if_pos hown)).trans ?_)
    have hpending : (s.holds[d]).pending = some w := hwaits
    rw [hpending, State.passNotice_granted hown]
    rfl
  · refine exec_of_ready h ((State.dropHold_held hdoor (if_pos hown)).trans ?_)
    have hpending : (s.holds[d]).pending = none := hnone
    rw [hpending, State.passNotice_freed rfl]
    rfl
  · have hdrop : (s.holds[d]).drop l = some { s.holds[d] with pending := none } :=
      (if_neg hnot).trans (if_pos hwaits)
    refine exec_of_ready h ((State.dropHold_held hdoor hdrop).trans ?_)
    rw [State.modHold_congr (g := ({ · with pending := none })) rfl, State.passNotice_withdrawn hnot]
    rfl
  · exact exec_of_ready h (State.dropHold_notHolder hdoor ((if_neg hnot).trans (if_neg hnotWaits)))

/-! ### SET_TERMINAL (R179) -/

namespace Dock

variable {k : Dock} {a : SetTerminal} {t : Fin 24}

theorem setTerminal_bound {spot : Spot} (ht : a.terminal = idx t) (hbinding : readBinding a.binding = some (some spot))
    (hfitted : k.spotFitted spot = true) (hroom : k.dockRoom spot = false) {k' : Dock}
    (hk' : k.bindTerminal t spot = k') :
    k.setTerminal a = accept k' (k'.terminalRecord t) := by
  subst hk'
  simp only [setTerminal, ht, indexOf_idx (by decide : 24 ≤ 256), hbinding, hfitted, hroom, Bool.true_eq_false,
    Bool.false_eq_true, if_false]

theorem setTerminal_unbound (ht : a.terminal = idx t) (hbinding : readBinding a.binding = some none) {k' : Dock}
    (hk' : k.unbindTerminal t = k') : k.setTerminal a = accept k' (k'.terminalRecord t) := by
  subst hk'
  simp only [setTerminal, ht, indexOf_idx (by decide : 24 ≤ 256), hbinding]

theorem modNode_congr {n : Fin 48} {f g : Node → Node} (h : f k.nodes[n] = g k.nodes[n]) :
    k.modNode n f = k.modNode n g := by
  unfold modNode; rw [tmod_congr h]

theorem bindTerminal_unfitted (spot : Spot) (h : (k.nodes[terminalNode t]).status = .notFitted) :
    k.bindTerminal t spot = k.modNode (terminalNode t)
      ({ · with binding := some spot, status := .online, misses := 0, verdict := none }) :=
  modNode_congr (if_pos h)

theorem bindTerminal_fitted (spot : Spot) (h : (k.nodes[terminalNode t]).status ≠ .notFitted) :
    k.bindTerminal t spot = k.modNode (terminalNode t) ({ · with binding := some spot, verdict := none }) :=
  modNode_congr (if_neg h)

theorem unbindTerminal_fitted (h : (k.nodes[terminalNode t]).status ≠ .notFitted) :
    k.unbindTerminal t = (k.modNode (terminalNode t)
      ({ · with binding := none, status := .notFitted, misses := 0, verdict := none })).clearCondition
      .nodeLost (.node (terminalNode t)) := if_pos (decide_eq_true h)

theorem unbindTerminal_unfitted (h : (k.nodes[terminalNode t]).status = .notFitted) : k.unbindTerminal t = k :=
  if_neg (by rw [nodeFitted, h]; decide)

end Dock

/-- Settles O52. -/
theorem setTerminalBinds : Obligations.SetTerminalBinds := fun _ _ a _ h ht =>
  ⟨fun spot hbinding hfitted hroom hnode => exec_of_ready_dock (·.setTerminal a) h rfl
      (Dock.setTerminal_bound ht hbinding hfitted hroom (Dock.bindTerminal_unfitted spot hnode)),
    fun spot hbinding hfitted hroom hnode => exec_of_ready_dock (·.setTerminal a) h rfl
      (Dock.setTerminal_bound ht hbinding hfitted hroom (Dock.bindTerminal_fitted spot hnode)),
    fun hbinding hnode => exec_of_ready_dock (·.setTerminal a) h rfl
      (Dock.setTerminal_unbound ht hbinding (Dock.unbindTerminal_fitted hnode)),
    fun hbinding hnode => exec_of_ready_dock (·.setTerminal a) h rfl
      (Dock.setTerminal_unbound ht hbinding (Dock.unbindTerminal_unfitted hnode))⟩

end Sys2Proof.Machine

/-! PROOFS. The Alarm List (Chapter 7): where a raised alarm goes, and its three requests, ACK_ALL by an induction on
its walk. -/

namespace Sys2Proof.Machine

/-! ### Raising (R150 to R152, R159) -/

/-- R150: the state in which a kind is raised. -/
def AlarmKind.raisedState (a : AlarmKind) : AlarmState := if a.oneShot then .clearedUnack else .activeUnack

/-- R151: a new entry. -/
def AlarmKind.entry (a : AlarmKind) (subj : Subject) (now : Word) : AlarmEntry :=
  { kind := a, subject := subj, first := now, last := now, repeats := 1, state := a.raisedState }

namespace Dock

variable {k : Dock} {a : AlarmKind} {subj : Subject}

theorem alarmNotice_line (h : k.alarmLine = lineLevel k.mask k.alarms k.overflow) (e : AlarmEntry) (ch : AlarmChange)
    (st : Option AlarmState) (l : Option Link) :
    (k.alarmNotice e ch st l).alarmLine = lineLevel (k.alarmNotice e ch st l).mask (k.alarmNotice e ch st l).alarms
      (k.alarmNotice e ch st l).overflow := by
  simpa only [alarmNotice_frame] using h

section Found

variable {e : AlarmEntry} (h : k.alarmEntry a subj = some e)
include h

theorem raise_found : k.raise a subj =
    (k.putEntry (e.repeated k.siteTime a.raisedState)).evalLine.alarmNotice (e.repeated k.siteTime a.raisedState)
      .raised (some a.raisedState) none := by
  unfold raise; dsimp only; rw [h]; rfl

theorem alarmEntry_matches : e.kind = a ∧ e.subject = subj :=
  AlarmEntry.matches_iff.mp (List.find?_some (p := fun x : AlarmEntry => x.matches a subj) h)

theorem raise_found_alarms : (k.raise a subj).alarms =
    k.alarms.map (fun x => if x.matches a subj then e.repeated k.siteTime a.raisedState else x) := by
  obtain ⟨hkind, hsubject⟩ := alarmEntry_matches h
  rw [raise_found h]
  simp [putEntry, AlarmEntry.repeated, hkind, hsubject]

theorem raise_found_overflow : (k.raise a subj).overflow = k.overflow := by rw [raise_found h]; simp

end Found

section NotFound

variable (h : k.alarmEntry a subj = none)
include h

theorem raise_room (hroom : k.alarms.length < 47) : k.raise a subj =
    ({ k with alarms := k.alarms ++ [a.entry subj k.siteTime] } : Dock).evalLine.alarmNotice (a.entry subj k.siteTime)
      .raised (some a.raisedState) none := by
  have hlt : k.alarms.length < Config.alarmPositions := hroom
  unfold raise; dsimp only; rw [h]; dsimp only; rw [if_pos hlt]; rfl

theorem raise_full (hfull : 47 ≤ k.alarms.length) : k.raise a subj = k.raiseOverflow := by
  have hge : ¬ k.alarms.length < Config.alarmPositions := Nat.not_lt.mpr hfull
  unfold raise; dsimp only; rw [h]; dsimp only; rw [if_neg hge]

end NotFound

theorem raiseOverflow_first (h : k.overflow = none) :
    k.raiseOverflow.overflow = some (AlarmKind.listOverflow.entry .site k.siteTime) := by
  unfold raiseOverflow; dsimp only; rw [h]; simp; rfl

theorem raiseOverflow_again {e : AlarmEntry} (h : k.overflow = some e) :
    k.raiseOverflow.overflow = some (e.repeated k.siteTime .activeUnack) := by
  unfold raiseOverflow; dsimp only; rw [h]; simp

theorem raise_line :
    (k.raise a subj).alarmLine = lineLevel (k.raise a subj).mask (k.raise a subj).alarms (k.raise a subj).overflow := by
  cases h : k.alarmEntry a subj with
  | some e => rw [raise_found h]; exact alarmNotice_line rfl _ _ _ _
  | none =>
    rcases Nat.lt_or_ge k.alarms.length 47 with hroom | hfull
    · rw [raise_room h hroom]; exact alarmNotice_line rfl _ _ _ _
    · rw [raise_full h hfull]; exact alarmNotice_line rfl _ _ _ _

end Dock

/-- Settles O49. -/
theorem raisedAlarmStands : Obligations.RaisedAlarmStands := fun k _ _ =>
  ⟨fun _ h => ⟨Dock.raise_found_overflow h, Dock.raise_found_alarms h⟩,
    fun h hroom => by rw [Dock.raise_room h hroom]; simp [AlarmKind.entry, AlarmKind.raisedState],
    fun h hfull => by
      rw [Dock.raise_full h hfull]
      exact ⟨by simp, Dock.raiseOverflow_first, fun _ => Dock.raiseOverflow_again⟩,
    Dock.raise_line⟩

/-! ### Acknowledging (R153 to R156) -/

/-- R153: the reserved entry after the condition of LIST_OVERFLOW is cleared. -/
def clearedEntry : Option AlarmEntry → Option AlarmEntry
  | none => none
  | some e =>
    match e.state with
    | .activeUnack => some { e with state := .clearedUnack }
    | .activeAck => none
    | .clearedUnack => some e

theorem clearedEntry_idem (o : Option AlarmEntry) : clearedEntry (clearedEntry o) = clearedEntry o := by
  cases o with
  | none => rfl
  | some e =>
    cases h : e.state <;> simp [clearedEntry, h]

namespace Dock

variable {k : Dock}

theorem clearOverflow_overflow : k.clearOverflow.overflow = clearedEntry k.overflow := by
  unfold clearOverflow
  cases h : k.overflow with
  | none => exact h
  | some e =>
    cases hstate : e.state <;> simp [clearedEntry, hstate, h]

/-! R155: the rows of an acknowledgment. -/

section Rows

variable (l : Link) {e : AlarmEntry}

theorem ackEntry_active (h : e.state = .activeUnack) :
    (k.ackEntry l e).overflow = k.overflow ∧ (k.ackEntry l e).alarms =
      k.alarms.map (fun x => if x.matches e.kind e.subject then { e with state := .activeAck } else x) := by
  unfold ackEntry; rw [h]; simp [putEntry]

theorem ackEntry_acknowledged (h : e.state = .activeAck) : k.ackEntry l e = k := by unfold ackEntry; rw [h]

theorem ackEntry_cleared (h : e.state = .clearedUnack) :
    (k.ackEntry l e).overflow = clearedEntry k.overflow ∧
    (k.ackEntry l e).alarms = k.alarms.filter (fun x => !x.matches e.kind e.subject) := by
  unfold ackEntry; rw [h]
  exact ⟨by simp [clearOverflow_overflow], by simp [dropEntry]⟩

end Rows

/-- R156: the walk over ordinary entries. -/
def ackList (k : Dock) (l : Link) (entries : List AlarmEntry) : Dock := entries.foldl (fun k e => k.ackEntry l e) k

theorem ackList_overflow (l : Link) (entries : List AlarmEntry) : (k.ackList l entries).overflow =
    if ∃ e ∈ entries, e.state = .clearedUnack then clearedEntry k.overflow else k.overflow := by
  induction entries generalizing k with
  | nil => simp [ackList]
  | cons e rest ih =>
    have hstep : (k.ackList l (e :: rest)).overflow = ((k.ackEntry l e).ackList l rest).overflow := rfl
    rw [hstep, ih]
    cases h : e.state with
    | activeUnack => simp [h, (ackEntry_active l h).1]
    | activeAck => simp [h, ackEntry_acknowledged l h]
    | clearedUnack => simp [h, (ackEntry_cleared l h).1, clearedEntry_idem]

/-- R155, R156: ordinary entries after every one of them has been acknowledged. -/
def acked (entries : List AlarmEntry) : List AlarmEntry :=
  (entries.filter (fun e => decide (e.state ≠ .clearedUnack))).map ({ · with state := .activeAck })

theorem ackList_alarms (l : Link) (entries done : List AlarmEntry) (h : k.alarms = done ++ entries)
    (hsingle : ((done ++ entries).map (fun e => (e.kind, e.subject))).Nodup) :
    (k.ackList l entries).alarms = done ++ acked entries := by
  induction entries generalizing k done with
  | nil => simpa [ackList, acked] using h
  | cons e rest ih =>
    have hsplit := hsingle
    rw [List.map_append, List.map_cons, List.nodup_middle, List.nodup_cons] at hsplit
    obtain ⟨hnew, hrest⟩ := hsplit
    rw [← List.map_append] at hnew hrest
    have hother (x : AlarmEntry) (hx : x ∈ done ++ rest) : x.matches e.kind e.subject = false := by
      refine Bool.eq_false_iff.mpr (fun hmatch => hnew (List.mem_map.mpr ⟨x, hx, ?_⟩))
      exact Prod.ext (AlarmEntry.matches_iff.mp hmatch).1 (AlarmEntry.matches_iff.mp hmatch).2
    have hself : e.matches e.kind e.subject = true := AlarmEntry.matches_iff.mpr ⟨rfl, rfl⟩
    have hstep : (k.ackList l (e :: rest)).alarms = ((k.ackEntry l e).ackList l rest).alarms := rfl
    rw [hstep]
    cases hstate : e.state with
    | activeUnack =>
      have hkeep (part : List AlarmEntry) (hin : ∀ x ∈ part, x ∈ done ++ rest) : part.map (fun x =>
          if x.matches e.kind e.subject then { e with state := .activeAck } else x) = part :=
        (List.map_congr_left (fun x hx => if_neg (by rw [hother x (hin x hx)]; decide))).trans (List.map_id _)
      have halarms : (k.ackEntry l e).alarms = (done ++ [{ e with state := .activeAck }]) ++ rest := by
        rw [(ackEntry_active l hstate).2, h, List.map_append, List.map_cons, if_pos hself,
          hkeep done (fun x hx => List.mem_append_left _ hx), hkeep rest (fun x hx => List.mem_append_right _ hx),
          List.append_assoc, List.singleton_append]
      rw [ih _ halarms (by simpa using hsingle)]
      simp [acked, hstate]
    | activeAck =>
      have hsame : { e with state := .activeAck } = e := by rw [← hstate]
      rw [ackEntry_acknowledged l hstate, ih (done ++ [e]) (by simp [h]) (by simpa using hsingle)]
      simp [acked, hstate, hsame]
    | clearedUnack =>
      have hkept : k.alarms.filter (fun x => !x.matches e.kind e.subject) = done ++ rest := by
        rw [h, List.filter_append, List.filter_cons_of_neg (by simp [hself]), ← List.filter_append]
        exact List.filter_eq_self.mpr (fun x hx => by simp [hother x hx])
      rw [ih done ((ackEntry_cleared l hstate).2.trans hkept) hrest]
      simp [acked, hstate]

theorem ackEvery_eq (l : Link) : k.ackEvery l = (k.ackList l k.alarms).ackOverflow l := rfl

theorem ackEvery_alarms (l : Link) (h : AlarmsOk k) : (k.ackEvery l).alarms = acked k.alarms := by
  have hwalk := ackList_alarms (k := k) l k.alarms [] rfl h.single
  rw [ackEvery_eq]
  simpa using hwalk

/-! R156: the reserved entry as the walk finds it. -/

theorem ackOverflow_isSome (l : Link) : (k.ackOverflow l).overflow.isSome =
    decide (k.overflow.map (·.state) = some .activeUnack ∨ k.overflow.map (·.state) = some .activeAck) := by
  unfold ackOverflow
  cases h : k.overflow with
  | none => simp [h]
  | some e => cases hstate : e.state <;> simp [h, hstate]

theorem clearedEntry_state (o : Option AlarmEntry) : (clearedEntry o).map (·.state) =
    match o with
    | none => none
    | some e => if e.state = .activeAck then none else some .clearedUnack := by
  cases o with
  | none => rfl
  | some e => cases hstate : e.state <;> simp [clearedEntry, hstate]

theorem count_cleared_eq_zero (entries : List AlarmEntry) :
    (entries.filter (fun e => decide (e.state = .clearedUnack))).length = 0 ↔
      ¬ ∃ e ∈ entries, e.state = .clearedUnack := by simp

/-- R153, R156: the state of the reserved entry that the walk finds. -/
def reservedState (k : Dock) : Option AlarmState :=
  match k.overflow with
  | none => none
  | some e =>
    if (k.alarms.filter (fun e => decide (e.state = .clearedUnack))).length = 0 then some e.state
    else if e.state = .activeAck then none else some .clearedUnack

theorem ackList_overflow_state (l : Link) : (k.ackList l k.alarms).overflow.map (·.state) = k.reservedState := by
  unfold reservedState
  rw [ackList_overflow]
  by_cases hcleared : ∃ e ∈ k.alarms, e.state = .clearedUnack
  · have hcount := mt (count_cleared_eq_zero k.alarms).mp (not_not.mpr hcleared)
    rw [if_pos hcleared, clearedEntry_state]
    cases k.overflow with
    | none => rfl
    | some e => exact (if_neg hcount).symm
  · rw [if_neg hcleared]
    cases k.overflow with
    | none => rfl
    | some e => exact (if_pos ((count_cleared_eq_zero k.alarms).mpr hcleared)).symm

theorem countState_append (entries : List AlarmEntry) (o : Option AlarmEntry) (st : AlarmState) :
    countState (entries ++ o.toList) st = (entries.filter (fun e => decide (e.state = st))).length +
      (if o.map (·.state) = some st then 1 else 0) := by
  cases o with
  | none => simp [countState]
  | some e => by_cases h : e.state = st <;> simp [countState, h]

theorem ackAll_eq (l : Link) : k.ackAll l = accept (k.ackEvery l)
    [byteOf ((k.alarms.filter (fun e => decide (e.state = .activeUnack))).length +
        (if k.reservedState = some .activeUnack then 1 else 0)),
      byteOf ((k.alarms.filter (fun e => decide (e.state = .clearedUnack))).length +
        (if k.reservedState = some .clearedUnack then 1 else 0)),
      byteOf (k.ackEvery l).alarms.length] := by
  have hunfold : k.ackAll l = accept (k.ackEvery l)
      [byteOf (countState (k.alarms ++ (k.ackList l k.alarms).overflow.toList) .activeUnack),
        byteOf (countState (k.alarms ++ (k.ackList l k.alarms).overflow.toList) .clearedUnack),
        byteOf (k.ackEvery l).alarms.length] := rfl
  rw [hunfold, countState_append, countState_append, ackList_overflow_state]

/-! R155: ACK_ALARM. -/

theorem ackAlarm_entry (l : Link) {a : AckAlarm} {kind : AlarmKind} {subj : Subject} {e : AlarmEntry} {pos : Nat}
    (ha : readAlarm a = some (kind, subj)) (hkind : kind ≠ .listOverflow)
    (hfound : k.alarms.zipIdx.find? (fun e => e.1.matches kind subj) = some (e, pos)) :
    k.ackAlarm l a = accept (k.ackEntry l e) (alarmRecord pos e (ackState e.state)) := by
  unfold ackAlarm; rw [ha]; dsimp only; rw [if_neg hkind, hfound]

theorem ackAlarm_reserved (l : Link) {a : AckAlarm} {e : AlarmEntry} (ha : readAlarm a = some (.listOverflow, .site))
    (h : k.overflow = some e) :
    k.ackAlarm l a = accept (k.ackOverflow l) (alarmRecord 47 e (ackState e.state)) := by
  unfold ackAlarm; rw [ha]; dsimp only; rw [if_pos rfl, h]

theorem setMask_accepted {kind setting : Byte} {a : AlarmKind} {st : MaskSetting} (hkind : readAlarmKind kind = some a)
    (hsetting : readMaskSetting setting = some st) (hmaskable : a.maskable = true) {k' : Dock}
    (hk' : ({ k with mask := tmod k.mask a.index (fun _ => st) } : Dock).evalLine = k') :
    k.setMask kind setting = accept k' k'.maskBytes := by
  subst hk'
  unfold setMask; rw [hkind, hsetting]; dsimp only; rw [if_pos hmaskable]

end Dock

/-- Settles O48. -/
theorem alarmRequests : Obligations.AlarmRequests := fun s l _ =>
  ⟨fun a _ _ _ _ h ha hkind hfound =>
      ⟨exec_of_ready_dock (·.ackAlarm l a) h rfl (Dock.ackAlarm_entry l ha hkind hfound),
        fun hstate => (Dock.ackEntry_active l hstate).2, Dock.ackEntry_acknowledged l,
        fun hstate => (Dock.ackEntry_cleared l hstate).2⟩,
    fun a _ h ha hreserved => exec_of_ready_dock (·.ackAlarm l a) h rfl (Dock.ackAlarm_reserved l ha hreserved),
    fun h => ⟨exec_of_ready_dock (·.ackAll l) h rfl (Dock.ackAll_eq l), fun hok =>
      ⟨Dock.ackEvery_alarms l hok, by
        rw [Dock.ackEvery_eq, Dock.ackOverflow_isSome, Dock.ackList_overflow_state]; rfl⟩⟩,
    fun kind setting _ _ h hkind hsetting hmaskable =>
      exec_of_ready_dock (·.setMask kind setting) h rfl (Dock.setMask_accepted hkind hsetting hmaskable rfl)⟩

end Sys2Proof.Machine

/-! PROOFS. Zones and pallets: what a zone update writes (R9 to R12), how an accrual splits (R31), what a change of
grade writes (R32 to R35), and which slots an admission takes (R24 to R26). -/

namespace Sys2Proof.Machine

/-! ### The zone update (R9 to R12) -/

namespace Dock

variable {k : Dock} {z : Fin 8}

/-- R12: what the substitution writes. -/
theorem substitute_zones : (k.substitute z).zones = tmod k.zones z
    ({ · with tz := (k.zones[z]).highLimit, tempStatus := .substituted, lastUpdate := k.running }) := by
  simp only [substitute]
  (repeat' split) <;> simp

theorem newTemperature_of_none (h : k.contributions z = []) : k.newTemperature z = k.substitute z := by
  simp [newTemperature, h]

/-- R10 to R12: Tz, status, INEXACT and time of update that a zone's contributions give. -/
def newZone (cs : List Int) (now : Nat) (zn : Zone) : Zone :=
  if cs = [] then { zn with tz := zn.highLimit, tempStatus := .substituted, lastUpdate := now }
  else { zn with tz := roundedMean zn.rounding cs.sum cs.length, tempStatus := .valid, lastUpdate := now,
                 inexact := zn.inexact || meanInexact cs.sum cs.length }

theorem newTemperature_zones : (k.newTemperature z).zones = tmod k.zones z (newZone (k.contributions z) k.running) := by
  by_cases h : k.contributions z = []
  · rw [newTemperature_of_none h, substitute_zones]
    exact tmod_congr (if_pos h).symm
  · rw [newTemperature_of_contributions h, measured_zones]
    exact tmod_congr (if_neg h).symm

/-- R9 to R12: what an update writes into its zone. -/
def updatedZone (k : Dock) (z : Fin 8) (zn : Zone) : Zone :=
  { newZone (k.contributions z) k.running zn with refresh := some k.running }

/-- R9, R13: the zone table after an update, the watches apart, which the handing on of Tz may move. -/
theorem zoneUpdate_unwatched : (k.zoneUpdate z none).unwatched = (k.modZone z (k.updatedZone z)).unwatched := by
  have hzones : (((k.accrueWhere (k.dependsOn z)).newTemperature z).restartRefresh z).zones =
      (k.modZone z (k.updatedZone z)).zones := by
    have hrunning : ((k.accrueWhere (k.dependsOn z)).newTemperature z).running = k.running := by simp
    have hzones : (k.accrueWhere (k.dependsOn z)).zones = k.zones := by simp
    have hnow : (k.accrueWhere (k.dependsOn z)).running = k.running := by simp
    rw [restartRefresh, modZone_zones, newTemperature_zones, hrunning, contributions_of_probes (k := k) (by simp),
      tmod_tmod, hzones, hnow]
    rfl
  exact (handOff_unwatched z).trans (unwatched_of_zones hzones)

theorem zoneUpdate_zone : ((k.zoneUpdate z none).zones[z]).unwatched = (k.updatedZone z k.zones[z]).unwatched := by
  rw [zone_unwatched zoneUpdate_unwatched z, modZone_zones, tmod_same]

theorem zoneUpdate_zone_other {y : Fin 8} (h : y ≠ z) :
    ((k.zoneUpdate z none).zones[y]).unwatched = (k.zones[y]).unwatched := by
  rw [zone_unwatched zoneUpdate_unwatched y, modZone_zones, tmod_ne _ _ h.symm]

/-- The fields of a zone that its watches do not hold. -/
theorem zone_fields {zn zn' : Zone} (h : zn.unwatched = zn'.unwatched) : zn.lastUpdate = zn'.lastUpdate ∧
    zn.refresh = zn'.refresh ∧ zn.tz = zn'.tz ∧ zn.tempStatus = zn'.tempStatus ∧ zn.inexact = zn'.inexact :=
  have hfield {α : Type} (f : Zone → α) : f zn.unwatched = f zn'.unwatched := congrArg f h
  ⟨hfield Zone.lastUpdate, hfield Zone.refresh, hfield Zone.tz, hfield Zone.tempStatus, hfield Zone.inexact⟩

theorem zoneUpdate_writes (k : Dock) (z : Fin 8) :
    let cs := k.contributions z
    let before := k.zones[z]
    let after := (k.zoneUpdate z none).zones[z]
    after.lastUpdate = k.running ∧ after.refresh = some k.running ∧
      (cs = [] → after.tz = before.highLimit ∧ after.tempStatus = .substituted ∧ after.inexact = before.inexact) ∧
      (cs ≠ [] → after.tz = roundedMean before.rounding cs.sum cs.length ∧ after.tempStatus = .valid ∧
        after.inexact = (before.inexact || meanInexact cs.sum cs.length)) ∧
      (∀ y : Fin 8, y ≠ z → ((k.zoneUpdate z none).zones[y]).tz = (k.zones[y]).tz ∧
        ((k.zoneUpdate z none).zones[y]).tempStatus = (k.zones[y]).tempStatus ∧
        ((k.zoneUpdate z none).zones[y]).lastUpdate = (k.zones[y]).lastUpdate) := by
  intro cs before after
  obtain ⟨hlast, hrefresh, htz, hstatus, hinexact⟩ := zone_fields (zoneUpdate_zone (k := k) (z := z))
  have hothers (y : Fin 8) (hy : y ≠ z) := zone_fields (zoneUpdate_zone_other (k := k) hy)
  refine ⟨hlast.trans ?_, hrefresh, fun hnone => ?_, fun hsome => ?_, fun y hy => ?_⟩
  · unfold updatedZone newZone; split <;> rfl
  · rw [updatedZone, newZone, if_pos hnone] at htz hstatus hinexact
    exact ⟨htz, hstatus, hinexact⟩
  · rw [updatedZone, newZone, if_neg hsome] at htz hstatus hinexact
    exact ⟨htz, hstatus, hinexact⟩
  · obtain ⟨hlast, -, htz, hstatus, -⟩ := hothers y hy
    exact ⟨htz, hstatus, hlast⟩

end Dock

/-- Settles O20: an update that a report causes is an update of the dock that has taken the readings in. -/
theorem zoneUpdateSetsTemperature : Obligations.ZoneUpdateSetsTemperature := by
  intro k z readings
  cases readings with
  | none => exact k.zoneUpdate_writes z
  | some rs =>
    have hzones : (k.intake z rs).zones = k.zones := by simp
    have hrunning : (k.intake z rs).running = k.running := by simp
    simpa only [Dock.zoneUpdate_some, hzones, hrunning] using (k.intake z rs).zoneUpdate_writes z

/-! ### An accrual in two parts (R31) -/

/-- Settles O28: below saturation an accrual adds its units to exposure and residue as one number. -/
theorem accrualSplits : Obligations.AccrualSplits := by
  intro src c p t1 t2 hstart horder hclamp hresidue hfits
  have hwhole : unitsDue src c t2 p = p.residue + excess src c * (t2 - p.stamp) * c.weight := by
    rw [unitsDue, Nat.min_eq_right (by omega)]
  have hfirst : unitsDue src c t1 p = p.residue + excess src c * (t1 - p.stamp) * c.weight := by
    rw [unitsDue, Nat.min_eq_right (by omega)]
  have hsum : excess src c * (t2 - p.stamp) * c.weight =
      excess src c * (t1 - p.stamp) * c.weight + excess src c * (t2 - t1) * c.weight := by
    rw [← Nat.add_mul, ← Nat.mul_add]; congr 2; omega
  have hfits1 : p.exposure + unitsDue src c t1 p / 960 ≤ 65535 := by rw [hfirst]; omega
  have hsecond : unitsDue src c t2 (accrueRecord src c t1 p) =
      unitsDue src c t1 p % 960 + excess src c * (t2 - t1) * c.weight := by
    rw [accrueRecord_of_fits hfits1, unitsDue, Nat.min_eq_right (by dsimp only; omega)]
  have hquotient : unitsDue src c t1 p / 960 + unitsDue src c t2 (accrueRecord src c t1 p) / 960 =
      unitsDue src c t2 p / 960 := by rw [hsecond, hwhole, hfirst]; omega
  have hrest : unitsDue src c t2 (accrueRecord src c t1 p) % 960 = unitsDue src c t2 p % 960 := by
    rw [hsecond, hwhole, hfirst]; omega
  have hexposure : (accrueRecord src c t1 p).exposure = p.exposure + unitsDue src c t1 p / 960 := by
    rw [accrueRecord_of_fits hfits1]
  rw [accrueRecord_of_fits (p := p) (now := t2) (by rw [hwhole]; exact hfits),
    accrueRecord_of_fits (p := accrueRecord src c t1 p)
      (by rw [hexposure, Nat.add_assoc, hquotient, hwhole]; exact hfits),
    hexposure, hrest, Nat.add_assoc, hquotient, accrueRecord_of_fits hfits1]
  simp

/-! ### Grades (R32 to R35) -/

namespace Dock

variable {k k' : Dock} {slot other : Nat}

theorem palletAt_of_pallets (h : k'.pallets = k.pallets) (slot : Nat) : k'.palletAt slot = k.palletAt slot := by
  simp only [palletAt, h]

theorem palletAt_modPallet_same (f : Pallet → Pallet) :
    (k.modPallet slot f).palletAt slot = (k.palletAt slot).map f := by
  have hkeys : ((fun e : Nat × Pallet => decide (e.1 = slot)) ∘ fun e => if e.1 = slot then (e.1, f e.2) else e) =
      fun e => decide (e.1 = slot) := by
    funext e; by_cases h : e.1 = slot <;> simp [h]
  simp only [palletAt, modPallet, List.find?_map, hkeys]
  cases h : k.pallets.find? (fun e => decide (e.1 = slot)) with
  | none => rfl
  | some e => simp [show e.1 = slot by simpa using List.find?_some h]

theorem palletAt_modPallet_other (f : Pallet → Pallet) (h : other ≠ slot) :
    (k.modPallet slot f).palletAt other = k.palletAt other := by
  have hkeys : ((fun e : Nat × Pallet => decide (e.1 = other)) ∘ fun e => if e.1 = slot then (e.1, f e.2) else e) =
      fun e => decide (e.1 = other) := by
    funext e; by_cases h : e.1 = slot <;> simp [h]
  simp only [palletAt, modPallet, List.find?_map, hkeys]
  cases hfind : k.pallets.find? (fun e => decide (e.1 = other)) with
  | none => rfl
  | some e =>
    have hslot : e.1 = other := by simpa using List.find?_some hfind
    simp [hslot, h]

theorem regrade_same {p : Pallet} (hp : k.palletAt slot = some p)
    (hg : gradeOf p.exposure p.budget (k.classes[p.cls]).warn = p.grade) : k.regrade slot = k := by
  unfold regrade; rw [hp]; exact if_pos hg

/-- R33 to R35: the table after a change of grade; the notice and the alarm leave it. -/
theorem regrade_pallets {p : Pallet} (hp : k.palletAt slot = some p)
    (hg : gradeOf p.exposure p.budget (k.classes[p.cls]).warn ≠ p.grade) : (k.regrade slot).pallets =
      (k.modPallet slot (fun q =>
        { q with
          grade := gradeOf p.exposure p.budget (k.classes[p.cls]).warn
          revision := p.revision + 1
          quarantine := q.quarantine || decide (gradeOf p.exposure p.budget (k.classes[p.cls]).warn = .spent)
          })).pallets := by
  unfold regrade; rw [hp]; dsimp only; rw [if_neg hg]
  (repeat' split) <;> simp

theorem palletAt_regrade_other (h : other ≠ slot) : (k.regrade slot).palletAt other = k.palletAt other := by
  cases hp : k.palletAt slot with
  | none => unfold regrade; rw [hp]
  | some p =>
    by_cases hg : gradeOf p.exposure p.budget (k.classes[p.cls]).warn = p.grade
    · rw [regrade_same hp hg]
    · rw [palletAt_of_pallets (regrade_pallets hp hg), palletAt_modPallet_other _ h]

end Dock

/-- R32: the rows of the grade table. -/
theorem gradeOf_rows (x b w : Nat) : (b ≤ x → gradeOf x b w = .spent) ∧
    (x < b → b * w ≤ x * 256 → gradeOf x b w = .warn) ∧ (x < b → x * 256 < b * w → gradeOf x b w = .ok) :=
  ⟨fun h => if_pos h, fun h hwarn => (if_neg (Nat.not_le.mpr h)).trans (if_pos hwarn),
    fun h hok => (if_neg (Nat.not_le.mpr h)).trans (if_neg (Nat.not_le.mpr hok))⟩

/-- Settles O29. -/
theorem regradeFollowsTable : Obligations.RegradeFollowsTable :=
  ⟨gradeOf_rows, fun _ slot _ hp => ⟨Dock.regrade_same hp, fun hg => by
      rw [Dock.palletAt_of_pallets (Dock.regrade_pallets hp hg), Dock.palletAt_modPallet_same, hp]; rfl,
    fun _ => Dock.palletAt_regrade_other⟩⟩

/-! ### Admission (R24 to R26) -/

namespace Dock

variable {k k' : Dock}

/-- R24: the slots of the table rise. -/
def SlotsRise (k : Dock) : Prop := (k.pallets.map (·.1)).Pairwise (· < ·)

theorem SlotsRise.palletAt_iff (h : k.SlotsRise) {slot : Nat} {p : Pallet} :
    k.palletAt slot = some p ↔ (slot, p) ∈ k.pallets := by
  refine ⟨palletAt_mem, fun hp => ?_⟩
  have hsome : (k.pallets.find? (fun e => decide (e.1 = slot))).isSome := List.find?_isSome.mpr ⟨_, hp, by simp⟩
  obtain ⟨e, he⟩ := Option.isSome_iff_exists.mp hsome
  have hslot : e.1 = slot := by simpa using List.find?_some he
  have hnodup : (k.pallets.map (·.1)).Nodup := h.imp (fun hlt => Nat.ne_of_lt hlt)
  rw [palletAt, he, List.inj_on_of_nodup_map hnodup (List.mem_of_find?_eq_some he) hp hslot]
  rfl

theorem palletAt_eq_none_iff {slot : Nat} : k.palletAt slot = none ↔ slot ∉ k.pallets.map (·.1) := by
  simp only [palletAt, Option.map_eq_none_iff, List.find?_eq_none, decide_eq_true_eq, List.mem_map, not_exists, not_and]

/-- R24, R26: one record admitted to a table in order, slot by slot. -/
theorem SlotsRise.admitOne (h : k.SlotsRise) (tag : Word) (cls : Fin 8) (budget : Nat) (spot : Spot) :
    let r := k.admitOne tag cls budget spot
    r.1.SlotsRise ∧ k.palletAt r.2 = none ∧ (∀ n, n < r.2 → k.palletAt n ≠ none) ∧
    (∀ n, r.1.palletAt n = if n = r.2 then some (admitted k tag cls budget spot) else k.palletAt n) ∧
    r.2 ≤ k.pallets.length ∧ r.1.pallets.length = k.pallets.length + 1 := by
  obtain ⟨hperm, hrise, hnew, hfull, hlen⟩ := admitOne_spec tag cls budget spot h
  have hrise' : (k.admitOne tag cls budget spot).1.SlotsRise := hrise
  refine ⟨hrise, palletAt_eq_none_iff.mpr hnew, fun n hn => mt palletAt_eq_none_iff.mp (not_not.mpr (hfull n hn)),
    fun n => Option.ext fun p => ?_, hlen, hperm.length_eq⟩
  rw [hrise'.palletAt_iff, hperm.mem_iff, List.mem_cons, ← h.palletAt_iff]
  split
  next hn =>
    rw [hn, palletAt_eq_none_iff.mpr hnew]
    simp [eq_comm]
  next hn => simp [hn]

/-- R24 to R26: what an admission of several records to a table in order does. -/
structure Admits (k : Dock) (spot : Spot) (entries : List Entry) (r : Dock × List Nat) : Prop where
  length : r.2.length = entries.length
  rising : r.2.Pairwise (· < ·)
  each : ∀ (i : Nat) (e : Entry), entries[i]? = some e → ∃ slot, r.2[i]? = some slot ∧
    k.palletAt slot = none ∧ (∀ lower : Nat, lower < slot → k.palletAt lower = none → lower ∈ r.2.take i) ∧
    (k.pallets.length + entries.length ≤ 1024 → slot < 1024) ∧
    r.1.palletAt slot = some (admitted k e.tag e.cls (e.override.getD (k.classes[e.cls]).budget) spot)
  kept : ∀ (slot : Nat) (p : Pallet), k.palletAt slot = some p → r.1.palletAt slot = some p

theorem Admits.free {spot : Spot} {entries : List Entry} {r : Dock × List Nat} (h : k.Admits spot entries r)
    {slot : Nat}
    (hslot : slot ∈ r.2) : k.palletAt slot = none := by
  obtain ⟨i, hi⟩ := List.mem_iff_getElem?.mp hslot
  have hlt : i < entries.length := h.length ▸ (List.getElem?_eq_some_iff.mp hi).1
  obtain ⟨slot', hslot', hfree, -⟩ := h.each i entries[i] (List.getElem?_eq_getElem hlt)
  rw [hi] at hslot'
  exact Option.some.inj hslot' ▸ hfree

theorem SlotsRise.admitEvery (h : k.SlotsRise) (spot : Spot) (entries : List Entry) :
    k.Admits spot entries (k.admitEvery spot entries) := by
  induction entries generalizing k with
  | nil => exact ⟨rfl, List.Pairwise.nil, fun i e he => by simp at he, fun _ _ hp => hp⟩
  | cons e rest ih =>
    obtain ⟨hrise, hfree, hlowest, hafter, hbound, hlength⟩ :=
      h.admitOne e.tag e.cls (e.override.getD (k.classes[e.cls]).budget) spot
    have hrest := ih hrise
    have hlater {slot : Nat}
        (hslot : (k.admitOne e.tag e.cls (e.override.getD (k.classes[e.cls]).budget) spot).1.palletAt slot = none) :
        k.palletAt slot = none ∧
        (k.admitOne e.tag e.cls (e.override.getD (k.classes[e.cls]).budget) spot).2 < slot := by
      rw [hafter] at hslot
      split at hslot
      next => exact absurd hslot (Option.some_ne_none _)
      next hne => exact ⟨hslot, lt_of_not_ge fun hle => hlowest slot (lt_of_le_of_ne hle hne) hslot⟩
    refine ⟨congrArg (· + 1) hrest.length, List.pairwise_cons.mpr ⟨fun slot hslot => (hlater (hrest.free hslot)).2,
      hrest.rising⟩, fun i x hx => ?_, fun slot p hp => hrest.kept slot p ?_⟩
    · cases i with
      | zero =>
        obtain rfl : e = x := Option.some.inj hx
        refine ⟨_, rfl, hfree, fun lower hlt hnone => absurd hnone (hlowest lower hlt), fun hroom => ?_,
          hrest.kept _ _ (by rw [hafter, if_pos rfl])⟩
        rw [List.length_cons] at hroom
        omega
      | succ i =>
        obtain ⟨slot, hslot, hnone, hlower, hroom, hrecord⟩ := hrest.each i x hx
        refine ⟨slot, hslot, (hlater hnone).1, fun lower hlt hfree' => ?_, fun hroom' => hroom ?_, hrecord⟩
        · rw [show (k.admitEvery spot (e :: rest)).2.take (i + 1) = _ :: _ from rfl, List.mem_cons]
          by_cases hne : lower = (k.admitOne e.tag e.cls (e.override.getD (k.classes[e.cls]).budget) spot).2
          · exact Or.inl hne
          · exact Or.inr (hlower lower hlt (by rw [hafter, if_neg hne, hfree']))
        · rw [List.length_cons] at hroom'
          omega
    · rw [hafter, if_neg (fun heq => by rw [heq, hfree] at hp; exact absurd hp (Option.some_ne_none p).symm), hp]

/-- R49: a lane that has taken `n` pallets. -/
def fillLane (k : Dock) (n : Nat) : Spot → Dock
  | .lane l => k.modLane l (fun ln => { ln with occupied := ln.occupied + n })
  | _ => k

theorem admitPallets_accepted {a : Admit} {spot : Spot} {entries : List Entry}
    (hspot : readAdmitSpot a.location = some spot) (hentries : readEvery readEntry a.entries = some entries)
    (hlow : 1 ≤ a.entries.length) (hhigh : a.entries.length ≤ 16) (hrefusal : k.admitRefusal spot entries = none) :
    k.admitPallets a = accept ((k.admitEvery spot entries).1.fillLane entries.length spot)
      (byteOf entries.length :: (k.admitEvery spot entries).2.flatMap numBytes2) := by
  have hrange : within 1 16 a.entries.length = true := within_iff.mpr ⟨hlow, hhigh⟩
  unfold admitPallets; rw [hspot, hentries, hrange]; dsimp only; rw [hrefusal]
  cases spot <;> rfl

end Dock

/-- Settles O24. -/
theorem admissionTakesEmptySlots : Obligations.AdmissionTakesEmptySlots := by
  refine ⟨fun s l tag a spot entries h hspot hentries hlow hhigh hrefusal => ?_, fun k spot entries h => ?_⟩
  · exact exec_of_ready_dock (·.admitPallets a) h rfl
      ((Dock.admitPallets_accepted hspot hentries hlow hhigh hrefusal).trans (by cases spot <;> rfl))
  · have hrise : k.SlotsRise := h.rising
    obtain ⟨hlength, hrising, heach, hkept⟩ := hrise.admitEvery spot entries
    exact ⟨hlength, hrising, heach, hkept⟩

end Sys2Proof.Machine

/-! PROOFS. COMMISSION (R208) and RESTART (R211, R212): what the one begins and the other drops and keeps. -/

namespace Sys2Proof.Machine

/-- A step that establishes something for its own element and keeps it for the others establishes it for every element
of a fold. -/
theorem foldl_establishes {α β : Type} {P : α → β → Prop} {f : β → α → β} (hself : ∀ b a, P a (f b a))
    (hkeep : ∀ b a c, P c b → P c (f b a)) {c : α} : ∀ (l : List α) (b : β), c ∈ l → P c (l.foldl f b)
  | a :: l, b, hc => by
    rw [List.foldl_cons]
    rcases List.mem_cons.mp hc with rfl | hc
    · exact foldl_invariant (P c) f (fun b a => hkeep b a c) l _ (hself b c)
    · exact foldl_establishes hself hkeep l _ hc

/-! ### COMMISSION (R178, R208) -/

/-- A byte written from its own number. -/
theorem byteOf_toNat (b : Byte) : byteOf b.toNat = b := by simp [byteOf]

theorem numBytes2_toNat (h : Half) : numBytes2 h.toNat = halfBytes h := by simp [numBytes2]

namespace Dock

variable {k : Dock}

/-! R177: the subjects of the three kinds of node. -/

theorem nodeSubject_doorNode (d : Fin 16) : nodeSubject (doorNode d) = .door d := dif_pos d.isLt

theorem nodeSubject_zoneNode : ∀ z : Fin 8, nodeSubject (zoneNode z) = .zone z := by decide

theorem nodeSubject_terminalNode : ∀ t : Fin 24, nodeSubject (terminalNode t) = .terminal t := by decide

/-- R178: the nodes that COMMISSION fits. -/
def commissionFits (k : Dock) (n : Fin 48) : Bool :=
  match nodeSubject n with
  | .door d => k.doorFitted d
  | .zone z => k.zoneFitted z
  | .terminal _ => false

theorem fitNodes_frame (k : Dock) : k.fitNodes.commissioning = k.commissioning ∧ k.fitNodes.running = k.running ∧
    k.fitNodes.doors = k.doors := by simp only [fitNodes, and_self]

theorem fitNodes_node (n : Fin 48) : k.fitNodes.nodes[n] =
    if k.commissionFits n = true then { k.nodes[n] with status := .online, misses := 0 } else k.nodes[n] :=
  Vector.getElem_ofFn n.isLt

theorem commissionFits_door (d : Fin 16) : k.commissionFits (doorNode d) = k.doorFitted d := by
  simp only [commissionFits, nodeSubject_doorNode]

theorem commissionFits_zone (z : Fin 8) : k.commissionFits (zoneNode z) = k.zoneFitted z := by
  simp only [commissionFits, nodeSubject_zoneNode]

theorem commissionFits_terminal (t : Fin 24) : k.commissionFits (terminalNode t) = false := by
  simp only [commissionFits, nodeSubject_terminalNode]

end Dock

/-- R8, R131: a zone's commissioned work has begun: its refresh timer runs from now and its interval timer runs. -/
def Dock.Begun (z : Fin 8) (k : Dock) : Prop :=
  (k.zones[z]).refresh = some k.running ∧ (k.defrosts[z]).interval = true

namespace Dock

variable {k : Dock}

@[simp] theorem beginZone_frame (k : Dock) (z : Fin 8) : (k.beginZone z).commissioning = k.commissioning ∧
    (k.beginZone z).running = k.running ∧ (k.beginZone z).nodes = k.nodes ∧ (k.beginZone z).doors = k.doors := by
  simp [beginZone]

theorem beginZone_zones (z : Fin 8) :
    (k.beginZone z).zones = tmod k.zones z ({ · with refresh := some k.running }) := by
  simp [beginZone, restartRefresh]

theorem beginZone_defrosts (z : Fin 8) :
    (k.beginZone z).defrosts = tmod k.defrosts z ({ · with interval := true }) := by
  simp [beginZone]

theorem begun_beginZone (z : Fin 8) : Begun z (k.beginZone z) := by
  refine ⟨?_, ?_⟩
  · rw [beginZone_zones, tmod_same, (k.beginZone_frame z).2.1]
  · rw [beginZone_defrosts, tmod_same]

theorem Begun.beginZone {z : Fin 8} (h : Begun z k) (y : Fin 8) : Begun z (k.beginZone y) := by
  by_cases hy : y = z
  · exact hy ▸ begun_beginZone y
  · obtain ⟨hrefresh, hinterval⟩ := h
    refine ⟨?_, ?_⟩
    · rw [beginZone_zones, tmod_ne _ _ hy, hrefresh, (k.beginZone_frame y).2.1]
    · rw [beginZone_defrosts, tmod_ne _ _ hy, hinterval]

/-- R208: the record that COMMISSION writes. -/
def commissioned (k : Dock) (a : CommissionArgs) : Dock :=
  { k with commissioning :=
    { done := true, siteNumber := a.siteNumber.toNat, doors := a.doors.toNat, zones := a.zones.toNat } }

/-- R178, R208: COMMISSION's nodes fitted and its zones begun. -/
def begunWork (k : Dock) : Dock :=
  ((List.finRange 8).filter (k.zoneFitted ·)).foldl (fun k z => k.beginZone z) k.fitNodes

theorem begunWork_frame : k.begunWork.commissioning = k.commissioning ∧ k.begunWork.running = k.running ∧
    k.begunWork.nodes = k.fitNodes.nodes ∧ k.begunWork.doors = k.doors := by
  unfold begunWork
  generalize (List.finRange 8).filter (k.zoneFitted ·) = zones
  have hkeep {α : Type} (g : Dock → α) (h : ∀ k z, g (beginZone k z) = g k) := foldl_keeps g _ h zones k.fitNodes
  obtain ⟨hcommissioning, hrunning, hdoors⟩ := k.fitNodes_frame
  exact ⟨(hkeep Dock.commissioning (fun k z => (k.beginZone_frame z).1)).trans hcommissioning,
    (hkeep Dock.running (fun k z => (k.beginZone_frame z).2.1)).trans hrunning,
    hkeep Dock.nodes (fun k z => (k.beginZone_frame z).2.2.1),
    (hkeep Dock.doors (fun k z => (k.beginZone_frame z).2.2.2)).trans hdoors⟩

theorem begunWork_begun {z : Fin 8} (h : k.zoneFitted z = true) : Begun z k.begunWork :=
  foldl_establishes (P := Begun) (fun k z => k.begun_beginZone z) (fun _ y _ hz => hz.beginZone y) _ _
    (List.mem_filter.mpr ⟨List.mem_finRange z, h⟩)

theorem commission_accepted {a : CommissionArgs} (hdone : k.commissioning.done = false) (hsite : a.siteNumber ≠ 0)
    (hdoors : 1 ≤ a.doors.toNat) (hdoors' : a.doors.toNat ≤ 16) (hzones : 1 ≤ a.zones.toNat)
    (hzones' : a.zones.toNat ≤ 8) : k.commission a =
      accept (k.commissioned a).begunWork (halfBytes a.siteNumber ++ [a.doors, a.zones, 1]) := by
  have hfields : ¬ (a.siteNumber = 0 ∨ within 1 16 a.doors.toNat = false ∨ within 1 8 a.zones.toNat = false) := by
    rw [within_iff.mpr ⟨hdoors, hdoors'⟩, within_iff.mpr ⟨hzones, hzones'⟩]
    simpa using hsite
  have hbytes : (k.commissioned a).begunWork.commissionBytes = halfBytes a.siteNumber ++ [a.doors, a.zones, 1] := by
    rw [commissionBytes, begunWork_frame.1]
    simp only [commissioned, numBytes2_toNat, byteOf_toNat]
    rfl
  rw [← hbytes]
  unfold commission
  rw [if_neg (by rw [hdone]; decide), if_neg hfields]
  rfl

end Dock

/-- Settles O9. -/
theorem commissionBegins : Obligations.CommissionBegins := by
  intro s tag a h hdone hsite hdoors hdoors' hzones hzones' k
  have hanswer := Dock.commission_accepted hdone hsite hdoors hdoors' hzones hzones'
  have hk : k = (s.dock.commissioned a).begunWork := congrArg Prod.fst hanswer
  obtain ⟨hrecord, hrunning, hnodes, hdoorTable⟩ := Dock.begunWork_frame (k := s.dock.commissioned a)
  refine ⟨?_, ?_, ?_, ?_, ?_, ?_⟩
  · rw [hk]; exact exec_of_ready_dock (·.commission a) h rfl hanswer
  · rw [hk, hrecord]; rfl
  · intro d hd
    rw [hk, hnodes, Dock.fitNodes_node, if_pos ((Dock.commissionFits_door d).trans (decide_eq_true hd))]
    exact ⟨rfl, rfl⟩
  · intro z hz
    have hfitted : (s.dock.commissioned a).zoneFitted z = true := decide_eq_true hz
    obtain ⟨hrefresh, hinterval⟩ := Dock.begunWork_begun hfitted
    rw [hk]
    refine ⟨?_, ?_, by rw [hrefresh, hrunning]; rfl, hinterval⟩
    all_goals rw [hnodes, Dock.fitNodes_node, if_pos ((Dock.commissionFits_zone z).trans hfitted)]
  · intro t
    rw [hk, hnodes, Dock.fitNodes_node, if_neg (by rw [Dock.commissionFits_terminal]; decide)]
    rfl
  · rw [hk, hdoorTable]; rfl

end Sys2Proof.Machine

/-! PROOFS. RESTART (R211, R212): the subscriptions that every operation of a restart keeps, where a relocation leaves
the pallet table, and what a restart drops and keeps. -/

namespace Sys2Proof.Machine

/-! ### Subscriptions (R205) -/

/-- R205: the groups of the two links. -/
def Dock.subscriptions (k : Dock) : BitVec 7 × BitVec 7 := (k.siteNotices.groups, k.floorNotices.groups)

namespace Dock

variable {k k' : Dock}

theorem offer_groups (e : NoticeEnd) (n : Notice) : (e.offer n).groups = e.groups := by
  unfold NoticeEnd.offer NoticeEnd.create
  (repeat' split) <;> rfl

theorem notifyLink_subscriptions (l : Link) (n : Notice) : (k.notifyLink l n).subscriptions = k.subscriptions := by
  cases l <;> simp [notifyLink, modNoticeEnd, subscriptions, offer_groups]

@[simp] theorem notify_subscriptions (n : Notice) : (k.notify n).subscriptions = k.subscriptions := by
  rw [notify, notifyLink_subscriptions, notifyLink_subscriptions]

@[simp] theorem alarmNotice_subscriptions (e : AlarmEntry) (ch : AlarmChange) (st : Option AlarmState)
    (l : Option Link) : (k.alarmNotice e ch st l).subscriptions = k.subscriptions := by
  unfold alarmNotice; split <;> simp

@[simp] theorem putEntry_subscriptions (e : AlarmEntry) : (k.putEntry e).evalLine.subscriptions = k.subscriptions := rfl

@[simp] theorem dropEntry_subscriptions (e : AlarmEntry) :
    (k.dropEntry e).evalLine.subscriptions = k.subscriptions := rfl

@[simp] theorem setOverflow_subscriptions (o : Option AlarmEntry) :
    ({ k with overflow := o } : Dock).evalLine.subscriptions = k.subscriptions := rfl

@[simp] theorem setAlarms_subscriptions (t : List AlarmEntry) :
    ({ k with alarms := t } : Dock).evalLine.subscriptions = k.subscriptions := rfl

@[simp] theorem raiseOverflow_subscriptions : k.raiseOverflow.subscriptions = k.subscriptions := by
  simp [raiseOverflow]

@[simp] theorem clearOverflow_subscriptions : k.clearOverflow.subscriptions = k.subscriptions := by
  simp only [clearOverflow]; (repeat' split) <;> simp

@[simp] theorem raise_subscriptions (a : AlarmKind) (subj : Subject) :
    (k.raise a subj).subscriptions = k.subscriptions := by
  simp only [raise]; (repeat' split) <;> simp

@[simp] theorem clearCondition_subscriptions (a : AlarmKind) (subj : Subject) :
    (k.clearCondition a subj).subscriptions = k.subscriptions := by
  simp only [clearCondition]; (repeat' split) <;> simp

@[simp] theorem modZone_subscriptions (z : Fin 8) (f : Zone → Zone) : (k.modZone z f).subscriptions = k.subscriptions :=
  rfl

@[simp] theorem modDoor_subscriptions (d : Fin 16) (f : Door → Door) :
    (k.modDoor d f).subscriptions = k.subscriptions :=
  rfl

@[simp] theorem modDefrost_subscriptions (z : Fin 8) (f : Defrost → Defrost) :
    (k.modDefrost z f).subscriptions = k.subscriptions := rfl

@[simp] theorem modChannel_subscriptions (c : Fin 48) (f : Channel → Channel) :
    (k.modChannel c f).subscriptions = k.subscriptions := rfl

@[simp] theorem modPallet_subscriptions (slot : Nat) (f : Pallet → Pallet) :
    (k.modPallet slot f).subscriptions = k.subscriptions := rfl

@[simp] theorem compareChannel_subscriptions (c : Fin 48) (w : Bool) :
    (k.compareChannel c w).subscriptions = k.subscriptions := by
  simp only [compareChannel]; (repeat' split) <;> simp

@[simp] theorem recompute_subscriptions (c : Fin 48) : (k.recompute c).subscriptions = k.subscriptions := by
  simp only [recompute]; split <;> simp

@[simp] theorem command_subscriptions (c : Fin 48) (lv : Level) : (k.command c lv).subscriptions = k.subscriptions := by
  simp only [command]; split <;> simp

@[simp] theorem suspendWarm_subscriptions (z : Fin 8) : (k.suspendWarm z).subscriptions = k.subscriptions := by
  simp only [suspendWarm]; split <;> simp

@[simp] theorem warmCompare_subscriptions (z : Fin 8) : (k.warmCompare z).subscriptions = k.subscriptions := by
  simp only [warmCompare]; (repeat' split) <;> simp

@[simp] theorem tellMonitor_subscriptions (z : Fin 8) (old new : Phase) :
    (k.tellMonitor z old new).subscriptions = k.subscriptions := by
  simp only [tellMonitor]; (repeat' split) <;> simp

@[simp] theorem enterPhase_subscriptions (z : Fin 8) (ph : Phase) :
    (k.enterPhase z ph).subscriptions = k.subscriptions := by
  simp [enterPhase, phaseNotice, commandPhase]

@[simp] theorem clearTest_subscriptions (z : Fin 8) : (k.clearTest z).subscriptions = k.subscriptions := by
  simp only [clearTest]; split <;> simp

@[simp] theorem grant_subscriptions (z : Fin 8) : (k.grant z).subscriptions = k.subscriptions := by simp [grant]

theorem arbiterLoop_subscriptions (n : Nat) (k : Dock) : (arbiterLoop n k).subscriptions = k.subscriptions := by
  induction n generalizing k with
  | zero => rfl
  | succ n ih =>
    unfold arbiterLoop
    split
    · split
      · rfl
      · rw [ih, grant_subscriptions]
    · rfl

@[simp] theorem dueTest_subscriptions (z : Fin 8) : (k.dueTest z).subscriptions = k.subscriptions := by
  simp only [dueTest, enterDue, arbiter]; split <;> simp [arbiterLoop_subscriptions]

@[simp] theorem feed_subscriptions (d : Fin 16) : (k.feed d).subscriptions = k.subscriptions := by
  simp only [feed, addFrost]; split <;> simp

@[simp] theorem regrade_subscriptions (slot : Nat) : (k.regrade slot).subscriptions = k.subscriptions := by
  simp only [regrade]; (repeat' split) <;> simp

@[simp] theorem accrue_subscriptions (slot : Nat) : (k.accrue slot).subscriptions = k.subscriptions := by
  simp only [accrue]; split <;> simp

@[simp] theorem accrueSlots_subscriptions (slots : List Nat) : (k.accrueSlots slots).subscriptions = k.subscriptions :=
  foldl_keeps Dock.subscriptions _ (fun k slot => k.accrue_subscriptions slot) _ _

@[simp] theorem relocateSlots_subscriptions (slots : List Nat) (loc : Loc) :
    (k.relocateSlots slots loc).subscriptions = k.subscriptions :=
  foldl_keeps Dock.subscriptions _ (fun k slot => by simp [relocate]) _ _

end Dock

/-! ### Where a relocation leaves the pallet table (R36) -/

namespace Dock

variable {k : Dock}

/-- A record of the table after a write to one slot. -/
theorem mem_modPallet {slot : Nat} {f : Pallet → Pallet} {e : Nat × Pallet} (h : e ∈ (k.modPallet slot f).pallets) :
    (e.1 = slot ∧ ∃ q, e.2 = f q) ∨ (e.1 ≠ slot ∧ e ∈ k.pallets) := by
  obtain ⟨x, hx, rfl⟩ := List.mem_map.mp h
  by_cases hslot : x.1 = slot
  · simp only [hslot, if_true]; exact Or.inl ⟨trivial, x.2, rfl⟩
  · simp only [hslot, if_false]; exact Or.inr ⟨hslot, hx⟩

/-- A recomputed grade writes at most its own slot. -/
theorem mem_regrade {slot : Nat} {e : Nat × Pallet} (h : e ∈ (k.regrade slot).pallets) (hother : e.1 ≠ slot) :
    e ∈ k.pallets := by
  cases hp : k.palletAt slot with
  | none => unfold regrade at h; rw [hp] at h; exact h
  | some p =>
    by_cases hg : gradeOf p.exposure p.budget (k.classes[p.cls]).warn = p.grade
    · rwa [regrade_same hp hg] at h
    · rw [regrade_pallets hp hg] at h
      rcases mem_modPallet h with ⟨hslot, -⟩ | ⟨-, hmem⟩
      · exact absurd hslot hother
      · exact hmem

theorem mem_accrue {slot : Nat} {e : Nat × Pallet} (h : e ∈ (k.accrue slot).pallets) (hother : e.1 ≠ slot) :
    e ∈ k.pallets := by
  cases hp : k.palletAt slot with
  | none => unfold accrue at h; rw [hp] at h; exact h
  | some p =>
    rw [accrue_of_palletAt hp] at h
    rcases mem_modPallet (mem_regrade h hother) with ⟨hslot, -⟩ | ⟨-, hmem⟩
    · exact absurd hslot hother
    · exact hmem

/-- R36: every record of a relocated slot stands at the new location, and the others are as they were. -/
theorem mem_relocate {slot : Nat} {loc : Loc} {e : Nat × Pallet} (h : e ∈ (k.relocate slot loc).pallets) :
    (e.1 = slot ∧ e.2.loc = loc) ∨ (e.1 ≠ slot ∧ e ∈ k.pallets) := by
  rcases mem_modPallet h with ⟨hslot, q, hq⟩ | ⟨hother, hmem⟩
  · exact Or.inl ⟨hslot, by rw [hq]⟩
  · exact Or.inr ⟨hother, mem_accrue hmem hother⟩

theorem mem_relocateSlots {slots : List Nat} {loc : Loc} {e : Nat × Pallet}
    (h : e ∈ (k.relocateSlots slots loc).pallets) :
    (e.1 ∈ slots ∧ e.2.loc = loc) ∨ (e.1 ∉ slots ∧ e ∈ k.pallets) := by
  induction slots generalizing k with
  | nil => exact Or.inr ⟨List.not_mem_nil, h⟩
  | cons slot rest ih =>
    rcases ih (k := k.relocate slot loc) h with ⟨hin, hloc⟩ | ⟨hout, hmem⟩
    · exact Or.inl ⟨List.mem_cons_of_mem _ hin, hloc⟩
    · rcases mem_relocate hmem with ⟨hslot, hloc⟩ | ⟨hother, hmem⟩
      · exact Or.inl ⟨hslot ▸ List.mem_cons_self, hloc⟩
      · exact Or.inr ⟨by simp [hother, hout], hmem⟩

theorem mem_slotsWhere {f : Pallet → Bool} {e : Nat × Pallet} (h : e ∈ k.pallets) (hf : f e.2 = true) :
    e.1 ∈ k.slotsWhere f := List.mem_map_of_mem (List.mem_filter.mpr ⟨h, hf⟩)

/-- Records that satisfy a test, all relocated to a place where none does, are gone from the table. -/
theorem not_mem_relocated {f : Pallet → Bool} {loc : Loc} {e : Nat × Pallet}
    (h : e ∈ (k.relocateSlots (k.slotsWhere f) loc).pallets) (hne : e.2.loc ≠ loc) : f e.2 = false := by
  rcases mem_relocateSlots h with ⟨-, hloc⟩ | ⟨hout, hmem⟩
  · exact absurd hloc hne
  · exact Bool.eq_false_iff.mpr (fun hf => hout (mem_slotsWhere hmem hf))

end Dock

/-! ### The stages of a restart (R211) -/

/-- R211, R212: what a restart keeps of the dock's records. -/
def Dock.settings (k : Dock) :=
  (k.commissioning, k.running, k.offset, k.classes, k.plantStop, k.mask, k.slotLimit, k.subscriptions)

namespace Dock

variable {k : Dock}

theorem closeInterval_settings : k.closeInterval.settings = k.settings := by
  unfold closeInterval accrueWhere
  dsimp only
  refine (?_ : _ = _).trans (foldl_keeps Dock.settings (fun k d => k.feed d) (fun k d => by simp [settings])
    ((List.finRange 16).filter (fun d => (k.doors[d]).state.notClosed)) k)
  simp only [settings, accrueSlots_frame, accrueSlots_subscriptions]

theorem closeInterval_rings : k.closeInterval.rings = k.rings := by
  unfold closeInterval accrueWhere
  simp only [accrueSlots_frame]
  exact foldl_keeps Dock.rings (fun k d => k.feed d) (fun k d => by simp) _ _

theorem restartZones_settings : k.restartZones.settings = k.settings := by
  simp only [settings, restartZones, subscriptions]

theorem strandTransit_settings : k.strandTransit.settings = k.settings := by
  simp [settings, strandTransit]

theorem restartDrains_settings : k.restartDrains.settings = k.settings :=
  foldl_keeps Dock.settings _ (fun k r => by simp [settings]) _ k

/-- R75: the rings of a restarted table. -/
def emptyRings (k : Dock) : Dock :=
  { k.restartDrains with rings := k.rings.map restartRing, flights := Vector.replicate 20 [] }

theorem restartMoves_eq : k.restartMoves =
    ((List.finRange 20).foldl (fun k r => k.clearCondition .moveOverdue (.ring r)) k.emptyRings).recount := rfl

theorem overdueClears_frame (rs : List (Fin 20)) :
    (rs.foldl (fun k r => k.clearCondition .moveOverdue (.ring r)) k).settings = k.settings ∧
    (rs.foldl (fun k r => k.clearCondition .moveOverdue (.ring r)) k).rings = k.rings ∧
    (rs.foldl (fun k r => k.clearCondition .moveOverdue (.ring r)) k).pallets = k.pallets :=
  ⟨foldl_keeps Dock.settings _ (fun k r => by simp [settings]) rs k, foldl_keeps Dock.rings _ (fun k r => by simp) rs k,
    foldl_keeps Dock.pallets _ (fun k r => by simp) rs k⟩

theorem recount_settings : k.recount.settings = k.settings := by simp [settings, subscriptions]

theorem restartMoves_settings : k.restartMoves.settings = k.settings := by
  have hempty : k.emptyRings.settings = k.restartDrains.settings := rfl
  rw [restartMoves_eq, recount_settings, (overdueClears_frame _).1, hempty, restartDrains_settings]

theorem restartMoves_rings : k.restartMoves.rings = k.rings.map restartRing := by
  have hempty : k.emptyRings.rings = k.rings.map restartRing := rfl
  simp only [restartMoves_eq, recount_frame, overdueClears_frame, hempty]

theorem restartMoves_pallets : k.restartMoves.pallets = k.pallets := by
  have hempty : k.emptyRings.pallets = k.restartDrains.pallets := rfl
  simp only [restartMoves_eq, recount_frame, overdueClears_frame, hempty, restartDrains_frame]

theorem enterResync_settings (d : Fin 16) : (k.enterResync d).settings = k.settings := by
  simp only [enterResync]; split <;> simp [settings]

theorem enterResync_frame (k : Dock) (d : Fin 16) : (k.enterResync d).rings = k.rings ∧
    (k.enterResync d).pallets = k.pallets ∧ (k.enterResync d).doors = tmod k.doors d ({ · with state := .resync }) := by
  simp only [enterResync]; split <;> simp

theorem restartDoors_settings : k.restartDoors.settings = k.settings :=
  foldl_keeps Dock.settings (fun k d => k.enterResync d) (fun _ d => enterResync_settings d) _ _

theorem restartDoors_rings : k.restartDoors.rings = k.rings :=
  foldl_keeps Dock.rings (fun k d => k.enterResync d) (fun k d => (k.enterResync_frame d).1) _ _

theorem restartDoors_pallets : k.restartDoors.pallets = k.pallets :=
  foldl_keeps Dock.pallets (fun k d => k.enterResync d) (fun k d => (k.enterResync_frame d).2.1) _ _

/-- R108: a door with no timers and nothing passing through. -/
def Quiet (k : Dock) : Prop := ∀ d : Fin 16, (k.doors[d]).timers = {} ∧ (k.doors[d]).through = 0

theorem Quiet.enterResync (h : k.Quiet) (d : Fin 16) : (k.enterResync d).Quiet := fun e => by
  rw [(k.enterResync_frame d).2.2, tmod_get]
  split
  · exact h e
  · exact h e

theorem restartDoors_quiet : k.restartDoors.Quiet := by
  refine foldl_invariant Quiet _ (fun k d h => h.enterResync d) _ _ (fun d => ?_)
  have hget : (k.doors.map restartDoorFields)[d] = restartDoorFields k.doors[d] := Vector.getElem_map ..
  rw [hget]
  exact ⟨rfl, rfl⟩

theorem restartDoors_state {d : Fin 16} (h : k.doorFitted d = true) : (k.restartDoors.doors[d]).state = .resync := by
  refine foldl_establishes (P := fun (d : Fin 16) (k : Dock) => (k.doors[d]).state = .resync)
    (f := fun k d => k.enterResync d) (fun k d => ?_) (fun k d e he => ?_) _ _
    (List.mem_filter.mpr ⟨List.mem_finRange d, h⟩)
  · rw [(k.enterResync_frame d).2.2, tmod_same]
  · rw [(k.enterResync_frame d).2.2, tmod_get]
    split
    · rfl
    · exact he

/-- R211: the dock after the stages of a restart. -/
def restarted (k : Dock) : Dock := k.closeInterval.restartBlocks.restartNotices

theorem restarted_settings : k.restarted.settings = k.settings := by
  have hlast : k.restarted.settings =
      k.closeInterval.restartZones.strandTransit.restartMoves.restartDoors.settings := by
    simp only [restarted, restartBlocks, restartNotices, restartNodes, restartChannels, restartDefrosts, settings,
      subscriptions]
  rw [hlast, restartDoors_settings, restartMoves_settings, strandTransit_settings, restartZones_settings,
    closeInterval_settings]

theorem restarted_rings : k.restarted.rings = k.rings.map restartRing := by
  have hlast : k.restarted.rings = k.closeInterval.restartZones.strandTransit.restartMoves.restartDoors.rings := by
    simp only [restarted, restartBlocks, restartNotices, restartNodes, restartChannels, restartDefrosts]
  have hfirst : k.closeInterval.restartZones.strandTransit.rings = k.closeInterval.rings := by
    simp [strandTransit, restartZones]
  rw [hlast, restartDoors_rings, restartMoves_rings, hfirst, closeInterval_rings]

theorem restarted_pallets : k.restarted.pallets = k.closeInterval.restartZones.strandTransit.pallets := by
  have hlast : k.restarted.pallets = k.closeInterval.restartZones.strandTransit.restartMoves.restartDoors.pallets := by
    simp only [restarted, restartBlocks, restartNotices, restartNodes, restartChannels, restartDefrosts]
  rw [hlast, restartDoors_pallets, restartMoves_pallets]

theorem restarted_doors :
    k.restarted.doors = k.closeInterval.restartZones.strandTransit.restartMoves.restartDoors.doors := by
  simp only [restarted, restartBlocks, restartNotices, restartNodes, restartChannels, restartDefrosts]

theorem doorFitted_of_settings {k' : Dock} (h : k'.settings = k.settings) (d : Fin 16) :
    k'.doorFitted d = k.doorFitted d := by
  have hcommissioning : k'.commissioning = k.commissioning := congrArg Prod.fst h
  simp only [doorFitted, hcommissioning]

theorem restarted_door {d : Fin 16} (h : k.doorFitted d = true) : (k.restarted.doors[d]).state = .resync ∧
    (k.restarted.doors[d]).timers = {} ∧ (k.restarted.doors[d]).through = 0 := by
  have hsettings : k.closeInterval.restartZones.strandTransit.restartMoves.settings = k.settings := by
    rw [restartMoves_settings, strandTransit_settings, restartZones_settings, closeInterval_settings]
  rw [restarted_doors]
  exact ⟨restartDoors_state ((doorFitted_of_settings hsettings d).trans h), restartDoors_quiet d⟩

theorem restarted_transit {e : Nat × Pallet} (h : e ∈ k.restarted.pallets) (r : Fin 20) (p : Fin 32) :
    e.2.loc ≠ .transit r p := fun hloc => by
  rw [restarted_pallets] at h
  have hout : inTransit e.2 = false := not_mem_relocated h (by rw [hloc]; exact Loc.noConfusion)
  rw [inTransit, hloc] at hout
  exact Bool.noConfusion hout

theorem restarted_ring (r : Fin 20) : k.restarted.rings[r] = restartRing k.rings[r] := by
  rw [restarted_rings]; exact Vector.getElem_map ..

theorem groups_of_subscriptions {k' : Dock} (h : k'.subscriptions = k.subscriptions) (l : Link) :
    (k'.noticeEnd l).groups = (k.noticeEnd l).groups := by
  cases l
  · exact congrArg Prod.fst h
  · exact congrArg Prod.snd h

theorem restartNotices_end (k : Dock) (l : Link) :
    (k.restartNotices.noticeEnd l).queue = [] ∧ (k.restartNotices.noticeEnd l).dropped = true := by
  cases l <;> exact ⟨rfl, rfl⟩

theorem restarted_end (k : Dock) (l : Link) :
    (k.restarted.noticeEnd l).queue = [] ∧ (k.restarted.noticeEnd l).dropped = true := restartNotices_end _ l

theorem restarted_defrost (z : Fin 8) : (k.restarted.defrosts[z]).phase = .cooling ∧
    (k.restarted.defrosts[z]).slot = false ∧ (k.restarted.defrosts[z]).coil = none := by
  have hrecord : ∃ fitted df, k.restarted.defrosts[z] = restartDefrost fitted df := ⟨_, _, Vector.getElem_ofFn z.isLt⟩
  obtain ⟨fitted, df, hrecord⟩ := hrecord
  rw [hrecord]
  exact ⟨rfl, rfl, rfl⟩

theorem restarted_channel (c : Fin 48) : (k.restarted.channels[c]).owner = .sequencer ∧
    (k.restarted.channels[c]).armed = false ∧ (k.restarted.channels[c]).effective = (channelKind c).safe := by
  have hrecord : ∃ ch, k.restarted.channels[c] = restartChannel c ch := ⟨_, Vector.getElem_ofFn c.isLt⟩
  obtain ⟨ch, hrecord⟩ := hrecord
  rw [hrecord]
  exact ⟨rfl, rfl, rfl⟩

end Dock

/-- Settles O10: each field is written by one stage of the restart and kept by the others. -/
theorem restartQuietsPart : Obligations.RestartQuietsPart := by
  intro s tag h t
  have hdock : t.dock = s.dock.restarted := rfl
  have hsettings : t.dock.settings = s.dock.settings := Dock.restarted_settings
  simp only [Dock.settings, Prod.mk.injEq] at hsettings
  obtain ⟨hcommissioning, hrunning, hoffset, hclasses, hstop, hmask, hlimit, hgroups⟩ := hsettings
  refine ⟨exec_of_ready h rfl, rfl, fun d => Vector.getElem_replicate d.isLt, rfl, rfl, rfl, rfl, fun r => ?_,
    fun d hd => Dock.restarted_door hd, Dock.restarted_defrost, Dock.restarted_channel,
    fun e he r p => Dock.restarted_transit he r p, fun l => ?_, hcommissioning, hrunning, hoffset, hclasses, hstop,
        hmask,
    hlimit⟩
  · rw [hdock, Dock.restarted_ring]
    exact ⟨rfl, rfl, rfl⟩
  · obtain ⟨hqueue, hdropped⟩ := s.dock.restarted_end l
    exact ⟨hqueue, hdropped, Dock.groups_of_subscriptions hgroups l, by cases l <;> rfl⟩

end Sys2Proof.Machine

/-! PROOFS. The slot arbiter (R116, R120): its winner, its grants and its limit. -/

namespace Sys2Proof.Machine

/-! ### The winner (R116) -/

namespace Dock

variable {k : Dock}

/-- R116: the walk's best zone after one more DUE zone. -/
def better (k : Dock) (best : Option (Fin 8)) (z : Fin 8) : Option (Fin 8) :=
  match best with
  | none => some z
  | some b => if (k.defrosts[b]).frost < (k.defrosts[z]).frost then some z else best

/-- R116: the best of the zones seen: the largest frost load and, of equals, the lowest number. -/
def BestOf (k : Dock) (seen : List (Fin 8)) : Option (Fin 8) → Prop
  | none => seen = []
  | some w => w ∈ seen ∧ ∀ y ∈ seen, (k.defrosts[y]).frost ≤ (k.defrosts[w]).frost ∧
      ((k.defrosts[y]).frost = (k.defrosts[w]).frost → w ≤ y)

theorem BestOf.better {seen : List (Fin 8)} {best : Option (Fin 8)} (h : k.BestOf seen best) {z : Fin 8}
    (hz : ∀ y ∈ seen, y < z) : k.BestOf (seen ++ [z]) (k.better best z) := by
  cases best with
  | none =>
    obtain rfl : seen = [] := h
    exact ⟨by simp, fun y hy => by obtain rfl : y = z := by simpa using hy
                                   exact ⟨le_rfl, fun _ => le_rfl⟩⟩
  | some b =>
    obtain ⟨hb, hbest⟩ := h
    by_cases hlt : (k.defrosts[b]).frost < (k.defrosts[z]).frost
    · rw [show k.better (some b) z = some z from if_pos hlt]
      refine ⟨by simp, fun y hy => ?_⟩
      rcases List.mem_append.mp hy with hy | hy
      · have hle := (hbest y hy).1
        exact ⟨by omega, fun heq => absurd heq (by omega)⟩
      · obtain rfl : y = z := by simpa using hy
        exact ⟨le_rfl, fun _ => le_rfl⟩
    · rw [show k.better (some b) z = some b from if_neg hlt]
      refine ⟨List.mem_append_left _ hb, fun y hy => ?_⟩
      rcases List.mem_append.mp hy with hy | hy
      · exact hbest y hy
      · obtain rfl : y = z := by simpa using hy
        exact ⟨Nat.not_lt.mp hlt, fun _ => (hz b hb).le⟩

theorem BestOf.foldl {zones seen : List (Fin 8)} {best : Option (Fin 8)} (h : k.BestOf seen best)
    (hrise : (seen ++ zones).Pairwise (· < ·)) : k.BestOf (seen ++ zones) (zones.foldl k.better best) := by
  induction zones generalizing seen best with
  | nil => simpa using h
  | cons z rest ih =>
    have hz : ∀ y ∈ seen, y < z := fun y hy => (List.pairwise_append.mp hrise).2.2 y hy z List.mem_cons_self
    have hnext := ih (h.better hz) (by simpa using hrise)
    simpa using hnext

/-- R116: the DUE zones, in ascending number. -/
def dueZones (k : Dock) : List (Fin 8) := (List.finRange 8).filter (fun z => decide ((k.defrosts[z]).phase = .due))

theorem mem_dueZones {z : Fin 8} : z ∈ k.dueZones ↔ (k.defrosts[z]).phase = .due := by
  simp [dueZones]

theorem winner_best (k : Dock) : k.BestOf k.dueZones k.winner := by
  have hrise : k.dueZones.Pairwise (· < ·) := (List.pairwise_lt_finRange 8).filter _
  exact BestOf.foldl (seen := []) (best := none) (zones := k.dueZones) rfl hrise

theorem winner_eq_none_iff : k.winner = none ↔ k.dueZones = [] := by
  have hbest := k.winner_best
  cases h : k.winner with
  | none => rw [h] at hbest; exact ⟨fun _ => hbest, fun _ => rfl⟩
  | some w =>
    rw [h] at hbest
    exact ⟨fun hnone => absurd hnone (Option.some_ne_none w), fun hnil => absurd hbest.1 (by rw [hnil]; simp)⟩

theorem winner_due {z : Fin 8} (h : k.winner = some z) : (k.defrosts[z]).phase = .due := by
  have hbest := k.winner_best
  rw [h] at hbest
  exact mem_dueZones.mp hbest.1

/-! ### A grant (R116, R120) -/

theorem enterPhase_defrosts (z : Fin 8) (ph : Phase) :
    (k.enterPhase z ph).defrosts = tmod k.defrosts z ({ · with phase := ph, gate := ph.gate }) := by
  simp [enterPhase]

/-- R116, R120, R122: the record of a zone that has been granted a slot. -/
def granted (clear : Bool) (now : Nat) (df : Defrost) : Defrost :=
  { df with
    slot := true
    phase := if clear then .defrosting else .holding
    gate := .closed
    deferral := if clear then none else some now
    duration := if clear then some now else df.duration }

/-- R120: whether a zone is clear reads its kind and its two counts. -/
theorem zoneClear_congr {k' : Dock} {z : Fin 8} (hzones : k'.unwatched = k.unwatched)
    (hmoves : (k'.defrosts[z]).moves = (k.defrosts[z]).moves)
    (hdoors : (k'.defrosts[z]).openDoors = (k.defrosts[z]).openDoors) : k'.zoneClear z = k.zoneClear z := by
  have hkind : (k'.zones[z]).kind = (k.zones[z]).kind := by
    have hfield := congrArg Zone.kind (zone_unwatched hzones z)
    exact hfield
  simp only [zoneClear, hkind, hmoves, hdoors]

/-- R120, R122: the clear-zone test of a zone in HOLDING. -/
theorem clearTest_defrosts {z : Fin 8} (h : (k.defrosts[z]).phase = .holding) : (k.clearTest z).defrosts =
    if k.zoneClear z = true ∧ k.plantStop = false then
      tmod k.defrosts z (fun df =>
        { df with deferral := none, phase := .defrosting, gate := .closed, duration := some k.running })
    else k.defrosts := by
  unfold clearTest
  by_cases hclear : k.zoneClear z = true ∧ k.plantStop = false
  · rw [if_pos ⟨h, hclear⟩, if_pos hclear, modDefrost_defrosts, enterPhase_defrosts, modDefrost_defrosts, tmod_tmod,
      tmod_tmod]
    rfl
  · rw [if_neg (fun hall => hclear hall.2), if_neg hclear]

/-- R116: the zone in HOLDING with its slot, before its clear-zone test. -/
def heldZone (k : Dock) (z : Fin 8) : Dock :=
  ((k.modDefrost z ({ · with slot := true })).enterPhase z .holding).modDefrost z
    ({ · with deferral := some k.running })

theorem grant_eq (z : Fin 8) : k.grant z = (k.heldZone z).clearTest z := rfl

theorem heldZone_defrosts (z : Fin 8) : (k.heldZone z).defrosts = tmod k.defrosts z
    (fun df => { df with slot := true, phase := .holding, gate := .closed, deferral := some k.running }) := by
  rw [heldZone, modDefrost_defrosts, enterPhase_defrosts, modDefrost_defrosts, tmod_tmod, tmod_tmod]
  rfl

theorem heldZone_clear (z : Fin 8) : (k.heldZone z).zoneClear z = k.zoneClear z :=
  zoneClear_congr (by simp [heldZone]) (by rw [heldZone_defrosts, tmod_same]) (by rw [heldZone_defrosts, tmod_same])

theorem heldZone_frame (z : Fin 8) : (k.heldZone z).plantStop = k.plantStop ∧ (k.heldZone z).running = k.running := by
  simp [heldZone]

theorem grant_defrosts (z : Fin 8) :
    (k.grant z).defrosts = tmod k.defrosts z (granted (k.zoneClear z && !k.plantStop) k.running) := by
  rw [grant_eq, clearTest_defrosts (by rw [heldZone_defrosts, tmod_same]), heldZone_clear, (heldZone_frame z).1,
    (heldZone_frame z).2, heldZone_defrosts]
  by_cases hclear : k.zoneClear z = true ∧ k.plantStop = false
  · rw [if_pos hclear, tmod_tmod, hclear.1, hclear.2]
    rfl
  · have hnot : (k.zoneClear z && !k.plantStop) = false := by
      rw [Bool.and_eq_false_iff, Bool.not_eq_false']
      rw [not_and, Bool.not_eq_false] at hclear
      exact (Bool.eq_false_or_eq_true (k.zoneClear z)).symm.imp_right hclear
    rw [if_neg hclear, hnot]
    rfl

theorem grant_conditions (k : Dock) (z : Fin 8) :
    (k.grant z).plantStop = k.plantStop ∧ (k.grant z).slotLimit = k.slotLimit := by simp

/-! ### The limit, and the end of the grants (R116) -/

/-- R116: the zones that hold a slot. -/
def slotSet (k : Dock) : Finset (Fin 8) := ((List.finRange 8).filter (fun z => (k.defrosts[z]).slot)).toFinset

theorem mem_slotSet {z : Fin 8} : z ∈ k.slotSet ↔ (k.defrosts[z]).slot = true := by simp [slotSet]

theorem slotsHeld_eq_card : k.slotsHeld = k.slotSet.card :=
  (List.toFinset_card_of_nodup ((List.nodup_finRange 8).filter _)).symm

theorem slotsHeld_grant_le (z : Fin 8) : (k.grant z).slotsHeld ≤ k.slotsHeld + 1 := by
  have hsubset : (k.grant z).slotSet ⊆ insert z k.slotSet := by
    intro y hy
    rw [Finset.mem_insert, mem_slotSet]
    rw [mem_slotSet, grant_defrosts, tmod_get] at hy
    split at hy
    next hz => exact Or.inl hz.symm
    next => exact Or.inr hy
  rw [slotsHeld_eq_card, slotsHeld_eq_card]
  exact (Finset.card_le_card hsubset).trans (Finset.card_insert_le _ _)

/-- A property that every grant with a free slot keeps is kept by the arbiter. -/
theorem arbiterLoop_invariant {P : Dock → Prop}
    (h : ∀ (k : Dock) (z : Fin 8), P k → k.slotsHeld < k.slotLimit → k.winner = some z → P (k.grant z)) (n : Nat)
    (k : Dock) (hk : P k) : P (arbiterLoop n k) := by
  induction n generalizing k with
  | zero => exact hk
  | succ n ih =>
    unfold arbiterLoop
    split
    next hfree =>
      cases hw : k.winner with
      | none => exact hk
      | some z => exact ih _ (h k z hk hfree.1 hw)
    next => exact hk

theorem arbiter_within (h : k.slotsHeld ≤ k.slotLimit) : k.arbiter.slotsHeld ≤ k.arbiter.slotLimit :=
  arbiterLoop_invariant (P := fun k => k.slotsHeld ≤ k.slotLimit) (fun k z _ hfree _ => by
    have hone := slotsHeld_grant_le (k := k) z
    rw [(k.grant_conditions z).2]
    omega) 8 k h

/-- A zone that is not DUE is left as it is by the grants. -/
theorem arbiterLoop_defrost (n : Nat) {z : Fin 8} (h : (k.defrosts[z]).phase ≠ .due) :
    (arbiterLoop n k).defrosts[z] = k.defrosts[z] := by
  refine arbiterLoop_invariant (P := fun k' => k'.defrosts[z] = k.defrosts[z]) (fun k' y hsame _ hwinner => ?_) n k rfl
  have hne : y ≠ z := fun heq => h (by rw [← hsame, ← heq]; exact winner_due hwinner)
  rw [grant_defrosts, tmod_ne _ _ hne, hsame]

/-- R116: a grant takes a zone out of DUE. -/
theorem dueZones_grant {z : Fin 8} (h : k.winner = some z) : (k.grant z).dueZones.length < k.dueZones.length := by
  have hgrant : (k.grant z).dueZones = k.dueZones.filter (fun y => decide (y ≠ z)) := by
    rw [dueZones, dueZones, List.filter_filter]
    refine List.filter_congr (fun y _ => ?_)
    rw [grant_defrosts, tmod_get]
    by_cases hy : z = y
    · subst hy; simp [granted]; split <;> decide
    · simp [hy, Ne.symm hy]
  rw [hgrant]
  exact List.length_filter_lt_length_iff_exists.mpr ⟨z, mem_dueZones.mpr (winner_due h), by simp⟩

theorem arbiterLoop_ends (n : Nat) (hstop : k.plantStop = false) (hn : k.dueZones.length ≤ n) :
    (arbiterLoop n k).slotLimit ≤ (arbiterLoop n k).slotsHeld ∨ (arbiterLoop n k).winner = none := by
  induction n generalizing k with
  | zero => exact Or.inr (winner_eq_none_iff.mpr (List.eq_nil_of_length_eq_zero (Nat.le_zero.mp hn)))
  | succ n ih =>
    unfold arbiterLoop
    split
    next =>
      cases hw : k.winner with
      | none => exact Or.inr hw
      | some z =>
        have hless := dueZones_grant hw
        exact ih (by rw [(k.grant_conditions z).1, hstop]) (by omega)
    next hfull => exact Or.inl (Nat.not_lt.mp (fun hfree => hfull ⟨hfree, hstop⟩))

theorem dueZones_length_le : k.dueZones.length ≤ 8 :=
  (List.length_filter_le _ _).trans (List.length_finRange).le

/-- R116: the record that the arbiter leaves of its first winner. -/
theorem arbiter_winner {z : Fin 8} (hstop : k.plantStop = false) (hfree : k.slotsHeld < k.slotLimit)
    (hw : k.winner = some z) : k.arbiter.defrosts[z] = granted (k.zoneClear z) k.running k.defrosts[z] := by
  have hgrant : (k.grant z).defrosts[z] = granted (k.zoneClear z) k.running k.defrosts[z] := by
    rw [grant_defrosts, tmod_same, hstop, Bool.not_false, Bool.and_true]
  have hfirst : k.arbiter = arbiterLoop 7 (k.grant z) := by
    unfold arbiter
    rw [arbiterLoop, if_pos ⟨hfree, hstop⟩, hw]
  rw [hfirst, arbiterLoop_defrost 7 (by rw [hgrant]; unfold granted; dsimp only; split <;> decide), hgrant]

theorem arbiter_stopped (h : k.plantStop = true) : k.arbiter = k := by
  unfold arbiter
  rw [arbiterLoop, if_neg (fun hall => absurd (h.symm.trans hall.2) (by decide))]

end Dock

/-- Settles O45: the winner by an induction on the walk over DUE zones, the limit and the end of the grants by one on
the grants, each of which takes one zone out of DUE and raises the slots held by at most 1. -/
theorem arbiterGrantsWithinLimit : Obligations.ArbiterGrantsWithinLimit := by
  refine ⟨fun k z hw => ⟨Dock.winner_due hw, fun y hy => ?_⟩, fun k hw y hy => ?_, fun k h => ?_,
    fun k => Dock.arbiter_stopped, fun k z hstop hfree hw => ?_, fun k hstop => ?_⟩
  · have hbest := k.winner_best
    rw [hw] at hbest
    exact hbest.2 y (Dock.mem_dueZones.mpr hy)
  · have hmem := Dock.mem_dueZones.mpr hy
    rw [Dock.winner_eq_none_iff.mp hw] at hmem
    exact absurd hmem List.not_mem_nil
  · have hlimit : k.arbiter.slotLimit = k.slotLimit := by simp
    rw [← hlimit]
    exact Dock.arbiter_within h
  · intro df
    have hdf : df = Dock.granted (k.zoneClear z) k.running k.defrosts[z] := Dock.arbiter_winner hstop hfree hw
    rw [hdf]
    refine ⟨rfl, rfl, fun hclear => ?_, fun hclear => ?_⟩
    · rw [hclear]; exact ⟨rfl, rfl⟩
    · rw [hclear]; exact ⟨rfl, rfl, rfl⟩
  · exact Dock.arbiterLoop_ends 8 hstop Dock.dueZones_length_le

end Sys2Proof.Machine

/-! PROOFS. Records by slot and rings by number: what relocations, accruals, advances and failing descriptors leave, the
removal of a trailer part (R71, R78), and CANCEL_HEAD (R59, R60). -/

namespace Sys2Proof.Machine

/-! ### The slots of the table and the locations in them (R24, R31, R36) -/

namespace Dock

variable {k k' : Dock} {slot other : Nat}

/-- R24: the slots that hold records. -/
def slots (k : Dock) : List Nat := k.pallets.map (·.1)

theorem modPallet_slots (f : Pallet → Pallet) : (k.modPallet slot f).slots = k.slots := by
  simp only [slots, modPallet, List.map_map]
  refine List.map_congr_left (fun e _ => ?_)
  by_cases h : e.1 = slot <;> simp [h]

theorem slots_of_pallets (h : k'.pallets = k.pallets) : k'.slots = k.slots := by simp only [slots, h]

theorem regrade_slots : (k.regrade slot).slots = k.slots := by
  cases hp : k.palletAt slot with
  | none => unfold regrade; rw [hp]
  | some p =>
    by_cases hg : gradeOf p.exposure p.budget (k.classes[p.cls]).warn = p.grade
    · rw [regrade_same hp hg]
    · rw [slots_of_pallets (regrade_pallets hp hg), modPallet_slots]

theorem accrue_slots : (k.accrue slot).slots = k.slots := by
  cases hp : k.palletAt slot with
  | none => unfold accrue; rw [hp]
  | some p => rw [accrue_of_palletAt hp, regrade_slots, modPallet_slots]

theorem relocate_slots (loc : Loc) : (k.relocate slot loc).slots = k.slots := by
  rw [relocate, modPallet_slots, accrue_slots]

theorem relocateSlots_slots (slots : List Nat) (loc : Loc) : (k.relocateSlots slots loc).slots = k.slots :=
  foldl_keeps Dock.slots _ (fun _ _ => relocate_slots loc) _ _

theorem palletAt_exists_iff : (∃ p, k.palletAt slot = some p) ↔ slot ∈ k.slots := by
  rw [← Option.isSome_iff_exists, Option.isSome_iff_ne_none, Ne, palletAt_eq_none_iff, not_not]
  rfl

/-- R36: every relocated slot that held a record holds one at the new location. -/
theorem palletAt_relocateSlots {slots : List Nat} (loc : Loc) (hin : slot ∈ slots) {p : Pallet}
    (hp : k.palletAt slot = some p) : ∃ q, (k.relocateSlots slots loc).palletAt slot = some q ∧ q.loc = loc := by
  have hslot : slot ∈ (k.relocateSlots slots loc).slots := by
    rw [relocateSlots_slots]; exact palletAt_exists_iff.mp ⟨p, hp⟩
  obtain ⟨q, hq⟩ := palletAt_exists_iff.mpr hslot
  refine ⟨q, hq, ?_⟩
  rcases mem_relocateSlots (palletAt_mem hq) with ⟨-, hloc⟩ | ⟨hout, -⟩
  · exact hloc
  · exact absurd hin hout

theorem palletAt_relocate (loc : Loc) {p : Pallet} (hp : k.palletAt slot = some p) :
    ∃ q, (k.relocate slot loc).palletAt slot = some q ∧ q.loc = loc :=
  palletAt_relocateSlots (slots := [slot]) loc List.mem_cons_self hp

theorem palletAt_accrue_other (h : other ≠ slot) : (k.accrue slot).palletAt other = k.palletAt other := by
  cases hp : k.palletAt slot with
  | none => unfold accrue; rw [hp]
  | some p => rw [accrue_of_palletAt hp, palletAt_regrade_other h, palletAt_modPallet_other _ h]

theorem palletAt_relocateSlots_other {slots : List Nat} (loc : Loc) (h : other ∉ slots) :
    (k.relocateSlots slots loc).palletAt other = k.palletAt other := by
  induction slots generalizing k with
  | nil => rfl
  | cons slot rest ih =>
    obtain ⟨hne, hrest⟩ := not_or.mp (mt List.mem_cons.mpr h)
    have hstep : (k.relocateSlots (slot :: rest) loc).palletAt other =
      ((k.relocate slot loc).relocateSlots rest loc).palletAt other := rfl
    rw [hstep, ih hrest, relocate, palletAt_modPallet_other _ hne, palletAt_accrue_other hne]

/-- The location of the record in a slot. -/
def locAt (k : Dock) (slot : Nat) : Option Loc := (k.palletAt slot).map (·.loc)

theorem locAt_of_pallets (h : k'.pallets = k.pallets) : k'.locAt slot = k.locAt slot := by
  rw [locAt, palletAt_of_pallets h, locAt]

theorem locAt_eq_some_iff {loc : Loc} : k.locAt slot = some loc ↔ ∃ p, k.palletAt slot = some p ∧ p.loc = loc := by
  simp [locAt]

theorem regrade_locAt : (k.regrade slot).locAt other = k.locAt other := by
  cases hp : k.palletAt slot with
  | none => unfold regrade; rw [hp]
  | some p =>
    by_cases hg : gradeOf p.exposure p.budget (k.classes[p.cls]).warn = p.grade
    · rw [regrade_same hp hg]
    · rw [locAt_of_pallets (regrade_pallets hp hg)]
      by_cases hslot : other = slot
      · rw [hslot, locAt, palletAt_modPallet_same, locAt, hp]; rfl
      · rw [locAt, palletAt_modPallet_other _ hslot, locAt]

/-- R31: an accrual moves no record. -/
theorem accrue_locAt : (k.accrue slot).locAt other = k.locAt other := by
  cases hp : k.palletAt slot with
  | none => unfold accrue; rw [hp]
  | some p =>
    rw [accrue_of_palletAt hp, regrade_locAt]
    by_cases hslot : other = slot
    · rw [hslot, locAt, palletAt_modPallet_same, locAt, hp]; rfl
    · rw [locAt, palletAt_modPallet_other _ hslot, locAt]

theorem accrueTrailer_locAt (d : Fin 16) : (k.accrueTrailer d).locAt slot = k.locAt slot :=
  foldl_keeps (fun k : Dock => k.locAt slot) _ (fun _ _ => accrue_locAt) _ _

theorem changeState_locAt (d : Fin 16) (st : DoorState) : (k.changeState d st).locAt slot = k.locAt slot := by
  rw [changeState_eq, locAt_of_pallets (k := k.passage d st) (by simp)]
  unfold passage leaveSet joinSet
  split
  · rw [locAt_of_pallets (k := k.accrueTrailer d) (by simp), accrueTrailer_locAt]
  · split
    · rw [locAt_of_pallets (k := k.accrueTrailer d) (by simp), accrueTrailer_locAt]
    · rfl

theorem countFalls_locAt (d : Fin 16) (exempt : Option (Fin 16)) :
    (k.countFalls d exempt).locAt slot = k.locAt slot := by
  unfold countFalls closeOrFault
  dsimp only
  split
  · split
    · rw [changeState_locAt]; rfl
    · rw [changeState_locAt]; rfl
  · rfl

theorem doorsFall_locAt (m : Descriptor) (exempt : Option (Fin 16)) :
    (k.doorsFall m exempt).locAt slot = k.locAt slot :=
  foldl_keeps (fun k : Dock => k.locAt slot) _ (fun _ d => countFalls_locAt d exempt) _ _

theorem moveOver_locAt (r : Fin 20) (m : Descriptor) (exempt : Option (Fin 16)) :
    (k.moveOver r m exempt).locAt slot = k.locAt slot := by
  rw [moveOver, locAt_of_pallets (k := k.doorsFall m exempt) (by simp), doorsFall_locAt]

/-! ### Rings that advance and fail (R52, R71) -/

theorem tmod_self {α : Type} {n : Nat} {t : Table α n} {i : Fin n} {f : α → α} (h : f t[i] = t[i]) :
    tmod t i f = t := by
  unfold tmod
  rw [h]
  exact Vector.set_getElem_self i.isLt

theorem drainIfEmpty_rings (r : Fin 20) : (k.drainIfEmpty r).rings = tmod k.rings r (fun ring =>
    if ring.waiting.isEmpty then { ring with state := .halted, drained := true } else ring) := by
  unfold drainIfEmpty
  split
  next h =>
    simp only [notify_frame, modRing_rings]
    exact tmod_congr (if_pos h).symm
  next h => exact (tmod_self (if_neg h)).symm

end Dock

/-- R52: a ring's head has left it as `m`. -/
def Ring.advanced (m : Descriptor) (ring : Ring) : Ring :=
  { ring with
    lastFinished := some { position := ring.head, move := m }
    head := ring.positionOf 1
    waiting := ring.waiting.tail
    state := if ring.waiting.tail.isEmpty then .halted else ring.state
    drained := if ring.waiting.tail.isEmpty then true else ring.drained }

namespace Dock

variable {k k' : Dock}

theorem advance_rings (r : Fin 20) (m : Descriptor) : (k.advance r m).rings = tmod k.rings r (·.advanced m) := by
  rw [advance, drainIfEmpty_rings, modRing_rings, tmod_tmod]
  refine tmod_congr ?_
  unfold Ring.advanced
  cases h : (k.rings[r]).waiting.tail.isEmpty with
  | true => simp only [if_true]
  | false => simp only [Bool.false_eq_true, if_false]

/-- A ring waits for nothing PENDING from or to a trailer. -/
def Unnamed (d : Fin 16) (ring : Ring) : Prop :=
  ∀ m ∈ ring.waiting, ¬ (m.status = .pending ∧ m.names (.trailer d) = true)

theorem unnamed_of_failing {d : Fin 16} {ring : Ring} (h : failing ring d = []) : Unnamed d ring := by
  intro m hm hnames
  obtain ⟨i, hi⟩ := List.mem_iff_getElem?.mp hm
  have hpair : (m, i) ∈ ring.waiting.zipIdx := List.mk_mem_zipIdx_iff_getElem?.mpr hi
  have hnil := List.filter_eq_nil_iff.mp (List.map_eq_nil_iff.mp h) (m, i) hpair
  exact hnil (by simp [hnames.1, hnames.2])

/-- R71: the ring of a trailer that has left, with what failed. -/
theorem failRing_rings {d : Fin 16} {r : Fin 20} {last : Finished} (h : (failing k.rings[r] d).getLast? = some last) :
    ∃ f, (k.failRing d r).rings = tmod k.rings r f ∧ (f k.rings[r]).waiting =
      (k.rings[r]).waiting.filter (fun m => !(decide (m.status = .pending) && m.names (.trailer d))) := by
  unfold failRing
  rw [h]
  dsimp only
  rw [drainIfEmpty_rings, modRing_rings, tmod_tmod]
  refine ⟨_, rfl, ?_⟩
  dsimp only
  split <;> rfl

theorem failRing_self (d : Fin 16) (r : Fin 20) : Unnamed d (k.failRing d r).rings[r] := by
  cases h : (failing k.rings[r] d).getLast? with
  | none =>
    unfold failRing
    rw [h]
    exact unnamed_of_failing (List.getLast?_eq_none_iff.mp h)
  | some last =>
    obtain ⟨f, hrings, hwaiting⟩ := failRing_rings h
    rw [hrings, tmod_same, Unnamed, hwaiting]
    intro m hm hnames
    have hkept := (List.mem_filter.mp hm).2
    simp [hnames.1, hnames.2] at hkept

theorem failRing_keeps {d : Fin 16} {r q : Fin 20} (hq : Unnamed d k.rings[q]) :
    Unnamed d (k.failRing d r).rings[q] := by
  by_cases hr : r = q
  · exact hr ▸ failRing_self d r
  · cases h : (failing k.rings[r] d).getLast? with
    | none => unfold failRing; rw [h]; exact hq
    | some last =>
      obtain ⟨f, hrings, -⟩ := failRing_rings h
      rw [hrings, tmod_ne _ _ hr]
      exact hq

theorem failTrailer_unnamed (d : Fin 16) (r : Fin 20) : Unnamed d (k.failTrailer d).rings[r] :=
  foldl_establishes (P := fun (r : Fin 20) (k : Dock) => Unnamed d k.rings[r]) (f := fun k r => k.failRing d r)
    (fun _ r => failRing_self d r) (fun _ _ _ hq => failRing_keeps hq) _ _ (List.mem_finRange r)

/-! ### The removal of a trailer part (R78) -/

/-- R37: the slots of the records that stand in the trailer at a door. -/
def trailerSlots (k : Dock) (d : Fin 16) : List Nat := k.slotsWhere (fun p => decide (p.loc = .at (.trailer d)))

theorem removeTrailer_doors (d : Fin 16) :
    (k.removeTrailer d).doors = tmod k.doors d ({ · with trailer := none }) := by simp [removeTrailer]

theorem removeTrailer_rings (d : Fin 16) : (k.removeTrailer d).rings = (k.failTrailer d).rings := by
  simp [removeTrailer]

theorem removeTrailer_pallets (d : Fin 16) : (k.removeTrailer d).pallets =
    ((k.failTrailer d).relocateSlots ((k.failTrailer d).trailerSlots d) .departed).pallets := by
  simp [removeTrailer, trailerSlots]

theorem failTrailer_palletAt (d : Fin 16) : (k.failTrailer d).palletAt slot = k.palletAt slot :=
  palletAt_of_pallets (by simp) slot

theorem mem_trailerSlots {d : Fin 16} : slot ∈ k.trailerSlots d ↔
    ∃ p, (slot, p) ∈ k.pallets ∧ p.loc = .at (.trailer d) := by
  simp [trailerSlots, slotsWhere]

theorem failTrailer_trailerSlots (d : Fin 16) : (k.failTrailer d).trailerSlots d = k.trailerSlots d := by
  simp [trailerSlots, slotsWhere]

end Dock

/-- Settles O42: the records of the trailer are those that the removal relocates, and the rings have failed what named
it. -/
theorem trailerRemovalEmpties : Obligations.TrailerRemovalEmpties := by
  intro k d k'
  have hslots := k.failTrailer_trailerSlots d
  refine ⟨?_, fun e he hloc => ?_, fun r m hm hnames => ?_, fun slot p hp hloc => ?_, fun hok slot p hp hloc => ?_⟩
  · rw [show k'.doors = _ from Dock.removeTrailer_doors d, tmod_same]
  · rw [show k'.pallets = _ from Dock.removeTrailer_pallets d] at he
    have hout : decide (e.2.loc = .at (.trailer d)) = false :=
      Dock.not_mem_relocated he (by rw [hloc]; exact Loc.noConfusion)
    exact absurd hloc (of_decide_eq_false hout)
  · rw [show k'.rings = _ from Dock.removeTrailer_rings d] at hm
    exact Dock.failTrailer_unnamed d r m hm ⟨hnames.1, by simpa [Descriptor.names] using hnames.2⟩
  · have hin : slot ∈ k.trailerSlots d := Dock.mem_trailerSlots.mpr ⟨p, palletAt_mem hp, hloc⟩
    rw [Dock.palletAt_of_pallets (Dock.removeTrailer_pallets d)]
    exact Dock.palletAt_relocateSlots _ (by rw [hslots]; exact hin) ((Dock.failTrailer_palletAt d).trans hp)
  · have hout : slot ∉ k.trailerSlots d := fun hin => by
      obtain ⟨q, hq, hqloc⟩ := Dock.mem_trailerSlots.mp hin
      rw [hok.palletAt_of_mem hq] at hp
      exact hloc (Option.some.inj hp ▸ hqloc)
    rw [Dock.palletAt_of_pallets (Dock.removeTrailer_pallets d),
      Dock.palletAt_relocateSlots_other _ (by rw [hslots]; exact hout), Dock.failTrailer_palletAt, hp]

/-! ### CANCEL_HEAD (R59, R60) -/

namespace Dock

variable {k k' : Dock}

theorem cancelHead_pending {r : Fin 20} {m : Descriptor} {rest : List Descriptor} (hring : k.ringFitted r = true)
    (hwaiting : (k.rings[r]).waiting = m :: rest) (h : m.status ≠ .picked) : k.cancelHead (idx r) =
      accept (k.advance r { m with status := .cancelled })
        (k.descriptorRecord (k.rings[r]).head { m with status := .cancelled }) := by
  unfold cancelHead; rw [ringOf_idx hring]; dsimp only; rw [hwaiting]; dsimp only [List.head?_cons]; rw [if_neg h]

theorem cancelHead_picked {r : Fin 20} {m : Descriptor} {rest : List Descriptor} (hring : k.ringFitted r = true)
    (hwaiting : (k.rings[r]).waiting = m :: rest) (h : m.status = .picked) : k.cancelHead (idx r) =
      accept (k.cancelPicked r m none) (k.descriptorRecord (k.rings[r]).head { m with status := .cancelled }) := by
  unfold cancelHead; rw [ringOf_idx hring]; dsimp only; rw [hwaiting]; dsimp only [List.head?_cons]; rw [if_pos h]

/-- R60: the pallet of a cancelled move set adrift, where the tag has a record. -/
def stranded (k : Dock) (m : Descriptor) : Dock :=
  match k.findTag m.tag with
  | none => k
  | some e => k.relocate e.1 .adrift

theorem cancelPicked_eq (r : Fin 20) (m : Descriptor) (exempt : Option (Fin 16)) : k.cancelPicked r m exempt =
    ((((k.stranded m).destCounts m.dest id (· - 1)).moveOver r m exempt).endOverdue r m).advance r
      { m with status := .cancelled } := rfl

theorem stranded_rings (m : Descriptor) : (k.stranded m).rings = k.rings := by
  unfold stranded; split <;> simp

theorem cancelPicked_rings (r : Fin 20) (m : Descriptor) (exempt : Option (Fin 16)) :
    (k.cancelPicked r m exempt).rings = tmod k.rings r (·.advanced { m with status := .cancelled }) := by
  rw [cancelPicked_eq, advance_rings]
  simp [stranded_rings]

theorem findTag_palletAt {tag : Word} {slot : Nat} {p : Pallet} (h : k.findTag tag = some (slot, p)) :
    ∃ q, k.palletAt slot = some q :=
  palletAt_exists_iff.mpr (List.mem_map_of_mem (f := Prod.fst) (List.mem_of_find?_eq_some h))

theorem cancelPicked_locAt {r : Fin 20} {m : Descriptor} (exempt : Option (Fin 16)) {slot : Nat} {p : Pallet}
    (h : k.findTag m.tag = some (slot, p)) : (k.cancelPicked r m exempt).locAt slot = some .adrift := by
  obtain ⟨q, hq⟩ := findTag_palletAt h
  have hstranded : (k.stranded m).locAt slot = some .adrift := by
    unfold stranded
    rw [h]
    exact locAt_eq_some_iff.mpr (palletAt_relocate _ hq)
  rw [cancelPicked_eq, locAt_of_pallets (k := ((k.stranded m).destCounts m.dest id (· - 1)).moveOver r m exempt)
      (by simp),
    moveOver_locAt, locAt_of_pallets (k := k.stranded m) (by simp), hstranded]

end Dock

/-- Settles O32. -/
theorem cancelHeadAbandons : Obligations.CancelHeadAbandons := by
  intro s l tag r m rest h hring hwaiting gone data
  refine ⟨fun hpending => ?_, fun hpicked => ?_⟩
  · exact exec_of_ready_dock (·.cancelHead (idx r)) h rfl (Dock.cancelHead_pending hring hwaiting hpending)
  · have hadvanced : (s.dock.cancelPicked r m none).rings[r] = (s.dock.rings[r]).advanced gone := by
      rw [Dock.cancelPicked_rings, tmod_same]
    refine ⟨exec_of_ready_dock (·.cancelHead (idx r)) h rfl (Dock.cancelHead_picked hring hwaiting hpicked), ?_, ?_, ?_,
      fun slot p hp => Dock.locAt_eq_some_iff.mp (Dock.cancelPicked_locAt none hp)⟩
    · rw [hadvanced, Ring.advanced, hwaiting]; rfl
    · rw [hadvanced]; rfl
    · rw [hadvanced]; rfl

end Sys2Proof.Machine

/-! PROOFS. Picks and places (R62 to R69): what a refused scan leaves alone, what a move writes into lanes, doors,
trailers and defrosts, and the two accepted scans. -/

namespace Sys2Proof.Machine

/-! ### Verdicts (R182) and refused scans (R64) -/

namespace Dock

variable {k k' : Dock}

theorem nodeFitted_of_nodes (h : k'.nodes = k.nodes) (n : Fin 48) : k'.nodeFitted n = k.nodeFitted n := by
  simp only [nodeFitted, h]

theorem giveVerdict_node {t : Fin 24} (h : k.nodeFitted (terminalNode t) = true) (v : Verdict) (tag : Word) :
    ((k.giveVerdict t v tag).nodes[terminalNode t]).verdict = some (v, tag) ∧
    ((k.giveVerdict t v tag).nodes[terminalNode t]).verdictCount =
      (k.nodes[terminalNode t]).verdictCount + 1 := by
  unfold giveVerdict
  rw [if_pos h, modNode_nodes, tmod_same]
  exact ⟨rfl, rfl⟩

theorem scanRefused_node {t : Fin 24} (h : k.nodeFitted (terminalNode t) = true) (scan : ScanKind) (tag : Word)
    (v : Verdict) (ring : Option (Fin 20)) :
    ((k.scanRefused t scan tag v ring).nodes[terminalNode t]).verdict = some (v, tag) :=
  (giveVerdict_node ((nodeFitted_of_nodes (by simp) _).trans h) v tag).1

/-- R64: what a refused scan does not touch. -/
def untouched (k : Dock) :=
  (k.pallets, k.lanes, k.doors, k.defrosts, k.channels, k.zones, k.flights,
    k.rings.map (fun ring => (ring.waiting, ring.state, ring.head)))

theorem untouched_modRing (r : Fin 20) {f : Ring → Ring}
    (h : ∀ ring, ((f ring).waiting, (f ring).state, (f ring).head) = (ring.waiting, ring.state, ring.head)) :
    (k.modRing r f).untouched = k.untouched := by
  have hrings : (tmod k.rings r f).map (fun ring => (ring.waiting, ring.state, ring.head)) =
      k.rings.map (fun ring => (ring.waiting, ring.state, ring.head)) := by
    ext i hi : 1
    have hget : (tmod k.rings r f)[i] = if r = ⟨i, hi⟩ then f k.rings[i] else k.rings[i] :=
      tmod_get k.rings r ⟨i, hi⟩ f
    rw [Vector.getElem_map, Vector.getElem_map, hget]
    split
    · exact h _
    · rfl
  unfold untouched
  rw [modRing_rings, hrings]
  rfl

theorem storeRefusal_untouched (r : Fin 20) (v : Verdict) (tag : Word) (t : Fin 24) :
    (k.storeRefusal r v tag t).untouched = k.untouched := untouched_modRing r (fun _ => rfl)

theorem scanRefused_untouched (t : Fin 24) (scan : ScanKind) (tag : Word) (v : Verdict) (ring : Option (Fin 20)) :
    (k.scanRefused t scan tag v ring).untouched = k.untouched := by simp [untouched]

theorem unplanned_untouched (t : Fin 24) (loc : Spot) (tag : Word) :
    (k.unplanned t loc tag).untouched = k.untouched := by
  have hraise (k : Dock) (a : AlarmKind) (subj : Subject) : (k.raise a subj).untouched = k.untouched := by
    simp [untouched]
  unfold unplanned
  rw [hraise]
  cases loc with
  | trailer d => exact (storeRefusal_untouched _ _ _ _).trans (untouched_modRing _ (fun _ => rfl))
  | lane n => rfl
  | room z => rfl

/-! R63, R64: the three ways in which a pick is refused. -/

section Refused

variable {t : Fin 24} {loc : Spot} {tag : Word}

theorem pickScan_stopped (hstop : k.plantStop = true) : ∃ (k1 : Dock) (ring : Option (Fin 20)),
    k1.untouched = k.untouched ∧ k1.nodes = k.nodes ∧ k.pickScan t loc tag = k1.scanRefused t .pick tag .held ring := by
  unfold pickScan
  cases h : k.candidate loc tag with
  | none => exact ⟨k, none, rfl, rfl, if_pos hstop⟩
  | some r => exact ⟨_, some r, storeRefusal_untouched .., by simp, if_pos hstop⟩

theorem pickScan_no_candidate (hstop : k.plantStop = false) (h : k.candidate loc tag = none) :
    k.pickScan t loc tag = (k.scanRefused t .pick tag .notHead none).unplanned t loc tag := by
  unfold pickScan
  rw [h]
  exact if_neg (by rw [hstop]; decide)

theorem pickScan_verdict {r : Fin 20} {m : Descriptor} {rest : List Descriptor} {v : Verdict}
    (hstop : k.plantStop = false) (h : k.candidate loc tag = some r) (hwaiting : (k.rings[r]).waiting = m :: rest)
    (hv : k.pickVerdict r m = some v) :
    k.pickScan t loc tag = (k.storeRefusal r v tag t).scanRefused t .pick tag v (some r) := by
  unfold pickScan
  rw [h]
  dsimp only
  rw [if_neg (by rw [hstop]; decide), hwaiting]
  dsimp only [List.head?_cons]
  rw [hv]

theorem pickScan_refused_untouched (h : k.plantStop = true ∨ k.candidate loc tag = none ∨
    ∃ r m rest v, k.candidate loc tag = some r ∧ (k.rings[r]).waiting = m :: rest ∧ k.pickVerdict r m = some v) :
    (k.pickScan t loc tag).untouched = k.untouched := by
  cases hstop : k.plantStop with
  | true =>
    obtain ⟨k1, ring, hsame, -, hscan⟩ := pickScan_stopped (t := t) (loc := loc) (tag := tag) hstop
    rw [hscan, scanRefused_untouched, hsame]
  | false =>
    rcases h with h | h | ⟨r, m, rest, v, hcandidate, hwaiting, hv⟩
    · exact absurd (hstop.symm.trans h) (by decide)
    · rw [pickScan_no_candidate hstop h, unplanned_untouched, scanRefused_untouched]
    · rw [pickScan_verdict hstop hcandidate hwaiting hv, scanRefused_untouched, storeRefusal_untouched]

end Refused

end Dock

/-- Settles O34. -/
theorem refusedPickKeepsDock : Obligations.RefusedPickKeepsDock := by
  intro k t loc tag h k'
  have hsame : k'.untouched = k.untouched := Dock.pickScan_refused_untouched h
  simp only [Dock.untouched, Prod.mk.injEq] at hsame
  obtain ⟨hpallets, hlanes, hdoors, hdefrosts, hchannels, hzones, hflights, hrings⟩ := hsame
  refine ⟨hpallets, hlanes, hdoors, hdefrosts, hchannels, hzones, hflights, fun r => ?_, fun hstop hfitted => ?_⟩
  · have hring := congrArg (fun t : Table (List Descriptor × RingState × Fin 32) 20 => t[r]) hrings
    simpa using hring
  · obtain ⟨k1, ring, -, hnodes, hscan⟩ := Dock.pickScan_stopped (t := t) (loc := loc) (tag := tag) hstop
    rw [show k' = _ from hscan]
    exact Dock.scanRefused_node ((Dock.nodeFitted_of_nodes hnodes _).trans hfitted) _ _ _ _

/-! ### What a move writes, block by block (R49, R68, R69, R118) -/

namespace Dock

variable {k k' : Dock}

theorem leaveSource_lane (s : Spot) (n : Fin 24) : (k.leaveSource s).lanes[n] =
    { k.lanes[n] with occupied := (k.lanes[n]).occupied - (if s = .lane n then 1 else 0) } := by
  cases s with
  | lane l =>
    rw [leaveSource, modLane_lanes, tmod_get]
    by_cases h : l = n
    · rw [if_pos h, if_pos (by rw [h])]
    · rw [if_neg h, if_neg (by simpa using h)]; rfl
  | trailer d => rfl
  | room z => rfl

/-- R49: the lane of a destination. -/
theorem destCounts_lane (s : Spot) (f g : Nat → Nat) (n : Fin 24) : (k.destCounts s f g).lanes[n] =
    if s = .lane n then { k.lanes[n] with occupied := f (k.lanes[n]).occupied, reserved := g (k.lanes[n]).reserved }
    else k.lanes[n] := by
  cases s with
  | lane l =>
    rw [destCounts, modLane_lanes, tmod_get]
    by_cases h : l = n
    · rw [if_pos h, if_pos (by rw [h])]
    · rw [if_neg h, if_neg (by simpa using h)]
  | trailer d => rfl
  | room z => rfl

/-- R49: the trailer of a destination. -/
theorem destCounts_door (s : Spot) (f g : Nat → Nat) (d : Fin 16) : (k.destCounts s f g).doors[d] =
    if s = .trailer d then
      { k.doors[d] with trailer := (k.doors[d]).trailer.map (fun t =>
          { t with direction := outboundCounts f g t.direction }) }
    else k.doors[d] := by
  cases s with
  | trailer e =>
    rw [destCounts, modTrailer, modDoor_doors, tmod_get]
    by_cases h : e = d
    · rw [if_pos h, if_pos (by rw [h])]
    · rw [if_neg h, if_neg (by simpa using h)]
  | lane l => rfl
  | room z => rfl

/-- R91: the through-door counts of several doors raised. -/
theorem rises_door (ds : List (Fin 16)) (d : Fin 16) : (ds.foldl (fun k x => k.countRises x) k).doors[d] =
    { k.doors[d] with through := (k.doors[d]).through + ds.count d } := by
  induction ds generalizing k with
  | nil => rfl
  | cons e rest ih =>
    rw [List.foldl_cons, ih, countRises, modDoor_doors, tmod_get, List.count_cons]
    by_cases h : e = d
    · simp only [h, if_true, beq_self_eq_true]
      rw [Nat.add_assoc, Nat.add_comm 1]
    · simp only [h, if_false, beq_iff_eq, Nat.add_zero]

/-- R118: the moves-in-flight counts of several zones changed by `f`, once for each mention. -/
theorem changes_moves (f : Nat → Nat) (zs : List (Fin 8)) (y : Fin 8) :
    ((zs.foldl (fun k z => k.changeMoves z f) k).defrosts[y]).settled =
      { (k.defrosts[y]).settled with moves := f^[zs.count y] (k.defrosts[y]).moves } := by
  induction zs generalizing k with
  | nil => rfl
  | cons z rest ih =>
    have hone : ((k.changeMoves z f).defrosts[y]).settled = if z = y then
        { (k.defrosts[y]).settled with moves := f (k.defrosts[y]).moves } else (k.defrosts[y]).settled := by
      rw [defrost_of_ungranted (changeMoves_ungranted z f), settled_modDefrost]
      rfl
    have hmoves : ((k.changeMoves z f).defrosts[y]).moves = if z = y then f (k.defrosts[y]).moves
        else (k.defrosts[y]).moves := by
      have hfield := congrArg Defrost.moves hone
      by_cases h : z = y
      · rw [if_pos h] at hfield ⊢; exact hfield
      · rw [if_neg h] at hfield ⊢; exact hfield
    rw [List.foldl_cons, ih, hone, hmoves, List.count_cons]
    by_cases h : z = y
    · simp only [h, if_true, beq_self_eq_true, Function.iterate_succ_apply]
    · simp only [h, if_false, beq_iff_eq, Nat.add_zero]

theorem changeMoves_unwatched (z : Fin 8) (f : Nat → Nat) : (k.changeMoves z f).unwatched = k.unwatched := by
  simp [changeMoves]

/-- R118: each zone of a move once. -/
theorem flightZones_count (src dst : Option (Fin 8)) (z : Fin 8) :
    (flightZones src dst).count z = if src = some z ∨ dst = some z then 1 else 0 := by
  cases src with
  | none => cases dst <;> simp [flightZones, List.eraseDups_cons, List.count_cons]
  | some a =>
    cases dst with
    | none => simp [flightZones, List.eraseDups_cons, List.count_cons]
    | some b =>
      by_cases hab : a = b
      · simp [flightZones, List.eraseDups_cons, List.count_cons, hab]
      · have hba : (b == a) = false := beq_false_of_ne (Ne.symm hab)
        have hpair : flightZones (some a) (some b) = [a, b] := by
          simp [flightZones, List.eraseDups_cons, hba]
        rw [hpair]
        by_cases ha : a = z
        · subst ha; simp [Ne.symm hab]
        · simp [List.count_cons, ha]

theorem moveBegan_flights (r : Fin 20) (src dst : Option (Fin 8)) :
    (k.moveBegan r src dst).flights = tmod k.flights r (fun _ => flightZones src dst) :=
  foldl_keeps Dock.flights (fun k z => k.changeMoves z (· + 1)) (fun k z => by simp) _ _

theorem moveBegan_unwatched (r : Fin 20) (src dst : Option (Fin 8)) :
    (k.moveBegan r src dst).unwatched = k.unwatched :=
  foldl_keeps Dock.unwatched (fun k z => k.changeMoves z (· + 1)) (fun _ z => changeMoves_unwatched z _) _ _

theorem moveBegan_defrost (r : Fin 20) (src dst : Option (Fin 8)) (z : Fin 8) :
    ((k.moveBegan r src dst).defrosts[z]).settled = { (k.defrosts[z]).settled with
      moves := (k.defrosts[z]).moves + (if src = some z ∨ dst = some z then 1 else 0) } := by
  rw [← flightZones_count]
  exact (changes_moves (k := { k with flights := tmod k.flights r (fun _ => flightZones src dst) }) (· + 1) _ z).trans
    (by rw [show (fun n : Nat => n + 1) = Nat.succ from rfl, Nat.succ_iterate])

/-- R68: a room quantum, zone by zone. -/
theorem roomQuantum_defrost (here other : Option (Fin 8)) (z : Fin 8) :
    ((k.roomQuantum here other).defrosts[z]).settled =
      if (k.zones[z]).kind = .frozenRoom ∧ here = some z ∧ other ≠ some z then
        { (k.defrosts[z]).settled with
          frost := min 65535 ((k.defrosts[z]).frost + (k.defrosts[z]).config.quantum) }
      else (k.defrosts[z]).settled := by
  cases here with
  | none => simp [roomQuantum]
  | some y =>
    unfold roomQuantum
    dsimp only
    by_cases hy : y = z
    · subst hy
      by_cases hroom : (k.zones[y]).kind = .frozenRoom ∧ other ≠ some y
      · rw [if_pos hroom, if_pos ⟨hroom.1, rfl, hroom.2⟩, defrost_of_ungranted (addFrost_ungranted y _),
          settled_modDefrost, if_pos rfl]
        rfl
      · have hnone : ¬ ((k.zones[y]).kind = .frozenRoom ∧ some y = some y ∧ other ≠ some y) :=
          fun ⟨hkind, _, hother⟩ => hroom ⟨hkind, hother⟩
        rw [if_neg hroom, if_neg hnone]
    · have hnone : ¬ ((k.zones[z]).kind = .frozenRoom ∧ some y = some z ∧ other ≠ some z) :=
        fun ⟨_, heq, _⟩ => hy (Option.some.inj heq)
      rw [if_neg hnone]
      split
      · rw [defrost_of_ungranted (addFrost_ungranted y _), settled_modDefrost, if_neg hy]
      · rfl

end Dock

theorem Dock.zone_kind_of_unwatched {k k' : Dock} (h : k'.unwatched = k.unwatched) (z : Fin 8) :
    (k'.zones[z]).kind = (k.zones[z]).kind := by
  have hfield : ((k'.zones[z]).unwatched).kind = ((k.zones[z]).unwatched).kind :=
    congrArg Zone.kind (zone_unwatched h z)
  exact hfield

/-! ### The accepted pick (R65) -/

namespace Dock

variable {k k' : Dock}

/-- R62: the head that a candidate ring offers. -/
theorem candidate_head {loc : Spot} {tag : Word} {r : Fin 20} {m : Descriptor} {rest : List Descriptor}
    (h : k.candidate loc tag = some r) (hwaiting : (k.rings[r]).waiting = m :: rest) :
    m.tag = tag ∧ m.source = loc := by
  have hcandidate : k.isCandidate loc tag r = true := List.find?_some h
  unfold isCandidate at hcandidate
  rw [hwaiting] at hcandidate
  simp only [List.head?_cons, Bool.and_eq_true, decide_eq_true_eq] at hcandidate
  exact ⟨hcandidate.2.1.2, hcandidate.2.2⟩

theorem pickScan_accepted {t : Fin 24} {loc : Spot} {tag : Word} {r : Fin 20} {m : Descriptor} {rest : List Descriptor}
    {slot : Nat} {p : Pallet} (hstop : k.plantStop = false) (h : k.candidate loc tag = some r)
    (hwaiting : (k.rings[r]).waiting = m :: rest) (hv : k.pickVerdict r m = none)
    (hp : k.findTag tag = some (slot, p)) : k.pickScan t loc tag = k.acceptPick t r m slot := by
  unfold pickScan
  rw [h]
  dsimp only
  rw [if_neg (by rw [hstop]; decide), hwaiting]
  dsimp only [List.head?_cons]
  rw [hv, hp]

/-- R49, R65: the pallet, the counts and the ring of an accepted pick. -/
def pickWritten (k : Dock) (r : Fin 20) (m : Descriptor) (slot : Nat) : Dock :=
  (((k.relocate slot (.transit r (k.rings[r]).head)).leaveSource m.source).destCounts m.dest id (· + 1)).modRing r
    (fun ring => { ring with
      waiting := { m with status := .picked, pickTime := some k.running } :: ring.waiting.tail })

/-- R69: its hand-offs. -/
theorem acceptPick_eq (t : Fin 24) (r : Fin 20) (m : Descriptor) (slot : Nat) : k.acceptPick t r m slot =
    (((((k.pickWritten r m slot).doorsRise m).moveBegan r (k.spotZone m.source) (k.spotZone m.dest)).roomQuantum
      (k.spotZone m.source) (k.spotZone m.dest)).giveVerdict t .accept m.tag) := rfl

section

variable (t : Fin 24) (r : Fin 20) (m : Descriptor) (slot : Nat)

theorem acceptPick_rings : (k.acceptPick t r m slot).rings = tmod k.rings r (fun ring =>
    { ring with waiting := { m with status := .picked, pickTime := some k.running } :: ring.waiting.tail }) := by
  simp [acceptPick_eq, pickWritten]

theorem acceptPick_pallets : (k.acceptPick t r m slot).pallets =
    (k.relocate slot (.transit r (k.rings[r]).head)).pallets := by simp [acceptPick_eq, pickWritten]

theorem acceptPick_lane (n : Fin 24) : (k.acceptPick t r m slot).lanes[n] =
    { k.lanes[n] with
      occupied := (k.lanes[n]).occupied - (if m.source = .lane n then 1 else 0)
      reserved := (k.lanes[n]).reserved + (if m.dest = .lane n then 1 else 0) } := by
  have hlanes : (k.acceptPick t r m slot).lanes =
      (((k.relocate slot (.transit r (k.rings[r]).head)).leaveSource m.source).destCounts m.dest id (· + 1)).lanes := by
    simp only [acceptPick_eq, pickWritten, giveVerdict_frame, roomQuantum_frame, moveBegan_frame, doorsRise_frame,
      modRing_lanes]
  have hsame : (k.relocate slot (.transit r (k.rings[r]).head)).lanes = k.lanes := by simp
  rw [hlanes, destCounts_lane, leaveSource_lane, hsame]
  split
  · rfl
  · rfl

theorem acceptPick_door (d : Fin 16) : (k.acceptPick t r m slot).doors[d] =
    { k.doors[d] with
      through := (k.doors[d]).through + m.doors.count d
      trailer := if m.dest = .trailer d then (k.doors[d]).trailer.map (fun t =>
        { t with direction := outboundCounts id (· + 1) t.direction }) else (k.doors[d]).trailer } := by
  have hdoors : (k.acceptPick t r m slot).doors = ((k.pickWritten r m slot).doorsRise m).doors := by
    simp only [acceptPick_eq, giveVerdict_frame, roomQuantum_frame, moveBegan_frame]
  have hwritten : (k.pickWritten r m slot).doors =
      (((k.relocate slot (.transit r (k.rings[r]).head)).leaveSource m.source).destCounts m.dest id (· + 1)).doors :=
    rfl
  have hsame : ((k.relocate slot (.transit r (k.rings[r]).head)).leaveSource m.source).doors = k.doors := by simp
  rw [hdoors, doorsRise, rises_door, hwritten, destCounts_door, hsame]
  split
  · rfl
  · rfl

theorem acceptPick_flights : (k.acceptPick t r m slot).flights =
    tmod k.flights r (fun _ => flightZones (k.spotZone m.source) (k.spotZone m.dest)) := by
  have hflights : (k.acceptPick t r m slot).flights = (((k.pickWritten r m slot).doorsRise m).moveBegan r
      (k.spotZone m.source) (k.spotZone m.dest)).flights := by
    simp only [acceptPick_eq, giveVerdict_frame, roomQuantum_frame]
  have hsame : ((k.pickWritten r m slot).doorsRise m).flights = k.flights := by simp [pickWritten]
  rw [hflights, moveBegan_flights, hsame]

theorem acceptPick_defrost (z : Fin 8) : ((k.acceptPick t r m slot).defrosts[z]).settled =
    { (k.defrosts[z]).settled with
      moves := (k.defrosts[z]).moves +
        (if k.spotZone m.source = some z ∨ k.spotZone m.dest = some z then 1 else 0)
      frost := if (k.zones[z]).kind = .frozenRoom ∧ k.spotZone m.source = some z ∧ k.spotZone m.dest ≠ some z then
          min 65535 ((k.defrosts[z]).frost + (k.defrosts[z]).config.quantum)
        else (k.defrosts[z]).frost } := by
  let k1 := (k.pickWritten r m slot).doorsRise m
  let k2 := k1.moveBegan r (k.spotZone m.source) (k.spotZone m.dest)
  have hdefrosts : k1.defrosts = k.defrosts := by simp [k1, pickWritten]
  have hzones : k1.zones = k.zones := by simp [k1, pickWritten]
  have hlast : (k.acceptPick t r m slot).defrosts =
      (k2.roomQuantum (k.spotZone m.source) (k.spotZone m.dest)).defrosts := by
    simp only [acceptPick_eq, giveVerdict_frame, k2, k1]
  have hbegan : (k2.defrosts[z]).settled = { (k.defrosts[z]).settled with
      moves := (k.defrosts[z]).moves +
        (if k.spotZone m.source = some z ∨ k.spotZone m.dest = some z then 1 else 0) } := by
    rw [moveBegan_defrost, hdefrosts]
  have hkind : (k2.zones[z]).kind = (k.zones[z]).kind :=
    zone_kind_of_unwatched ((moveBegan_unwatched r _ _).trans (unwatched_of_zones hzones)) z
  have hfrost : (k2.defrosts[z]).frost = (k.defrosts[z]).frost := by
    have hfield := congrArg Defrost.frost hbegan
    exact hfield
  have hconfig : (k2.defrosts[z]).config = (k.defrosts[z]).config := by
    have hfield := congrArg Defrost.config hbegan
    exact hfield
  rw [hlast, roomQuantum_defrost, hkind, hbegan, hfrost, hconfig]
  split
  · rfl
  · rfl

theorem acceptPick_node (h : k.nodeFitted (terminalNode t) = true) :
    ((k.acceptPick t r m slot).nodes[terminalNode t]).verdict = some (.accept, m.tag) ∧
    ((k.acceptPick t r m slot).nodes[terminalNode t]).verdictCount = (k.nodes[terminalNode t]).verdictCount + 1 := by
  have hnodes : (((((k.pickWritten r m slot).doorsRise m).moveBegan r
      (k.spotZone m.source) (k.spotZone m.dest)).roomQuantum
      (k.spotZone m.source) (k.spotZone m.dest))).nodes = k.nodes := by simp [pickWritten]
  have hgiven := giveVerdict_node ((nodeFitted_of_nodes hnodes _).trans h) .accept m.tag
  rw [hnodes] at hgiven
  exact hgiven

end

end Dock

/-- Settles O33. -/
theorem pickAccepted : Obligations.PickAccepted := by
  intro k t loc tag r m rest slot p hstop hcandidate hwaiting hv hp k'
  have hk' : k' = k.acceptPick t r m slot := Dock.pickScan_accepted hstop hcandidate hwaiting hv hp
  obtain ⟨q, hq⟩ := Dock.findTag_palletAt hp
  have hdefrost := Dock.acceptPick_defrost (k := k) t r m slot
  rw [hk']
  refine ⟨?_, fun q hq => ?_, ?_, Dock.acceptPick_lane t r m slot, fun d => ?_, ?_, fun q hq => ?_, fun z => ?_,
    fun hfitted => ?_⟩
  · rw [Dock.acceptPick_rings, tmod_same, hwaiting]; rfl
  · rw [Dock.acceptPick_rings, tmod_ne _ _ (Ne.symm hq)]
  · rw [Dock.palletAt_of_pallets (Dock.acceptPick_pallets t r m slot)]
    exact Dock.palletAt_relocate _ hq
  · rw [Dock.acceptPick_door]
    refine ⟨rfl, ?_⟩
    cases (k.doors[d]).trailer with
    | none => simp
    | some trailer =>
      obtain ⟨trailerId, direction⟩ := trailer
      by_cases h : m.dest = .trailer d
      · cases direction <;> simp [Dock.outboundCounts, h]
      · cases direction <;> simp [h]
  · rw [Dock.acceptPick_flights, tmod_same]
  · rw [Dock.acceptPick_flights, tmod_ne _ _ (Ne.symm hq)]
  · exact ⟨congrArg Defrost.moves (hdefrost z), congrArg Defrost.frost (hdefrost z)⟩
  · rw [← (Dock.candidate_head hcandidate hwaiting).1]
    exact Dock.acceptPick_node t r m slot hfitted

end Sys2Proof.Machine

/-! PROOFS. The accepted place (R66 to R69): the end of a move at its doors and in the Defrost Controller, and what the
scan writes. -/

namespace Sys2Proof.Machine

/-! ### The end of a move at its doors (R91, R94) -/

namespace Dock

variable {k k' : Dock}

/-- R81: a door's change of state writes no moves-in-flight count. -/
theorem passage_moves (d : Fin 16) (new : DoorState) (z : Fin 8) :
    ((k.passage d new).defrosts[z]).moves = (k.defrosts[z]).moves := by
  have hfrost (k : Dock) (y : Fin 8) (n : Nat) : ((k.addFrost y n).defrosts[z]).moves = (k.defrosts[z]).moves := by
    have hfield := congrArg Defrost.moves ((defrost_of_ungranted (addFrost_ungranted (k := k) y n) z).trans
      (settled_modDefrost _ _ _))
    split at hfield
    · exact hfield
    · exact hfield
  have hdoors (k : Dock) (y : Fin 8) (f : Nat → Nat) :
      ((k.changeOpenDoors y f).defrosts[z]).moves = (k.defrosts[z]).moves := by
    have hfield := congrArg Defrost.moves ((defrost_of_ungranted (changeOpenDoors_ungranted (k := k) y f) z).trans
      (settled_modDefrost _ _ _))
    split at hfield
    · exact hfield
    · exact hfield
  have hfeed (k : Dock) : ((k.feed d).defrosts[z]).moves = (k.defrosts[z]).moves := by
    cases hzone : (k.doors[d]).config.dockZone with
    | none => rw [feed_unset hzone]; rfl
    | some y => rw [feed_set hzone, hfrost]; rfl
  have htell (k : Dock) (f : Nat → Nat) : ((k.tellOpenDoors d f).defrosts[z]).moves = (k.defrosts[z]).moves := by
    unfold tellOpenDoors
    split
    · rfl
    · exact hdoors _ _ _
  have haccrue : (k.accrueTrailer d).defrosts = k.defrosts := by simp
  unfold passage leaveSet joinSet
  split
  · rw [htell, hfeed, haccrue]
  · split
    · rw [htell, modDoor_defrosts, haccrue]
    · rfl

theorem changeState_moves (d : Fin 16) (new : DoorState) (z : Fin 8) :
    ((k.changeState d new).defrosts[z]).moves = (k.defrosts[z]).moves := by
  have hdefrosts : ((k.passage d new).enterState d new).defrosts = (k.passage d new).defrosts := by simp
  rw [changeState_eq, hdefrosts, passage_moves]

/-- R91, R94: a fall of a through-door count: the count written, and then, at most, a change of state. -/
theorem countFalls_cases (d : Fin 16) (exempt : Option (Fin 16)) :
    k.countFalls d exempt = k.modDoor d (fun dr => { dr with through := dr.through - 1 }) ∨
    ∃ st, k.countFalls d exempt = (k.modDoor d (fun dr => { dr with through := dr.through - 1 })).changeState d st := by
  unfold countFalls closeOrFault
  dsimp only
  split
  · split
    · exact Or.inr ⟨_, rfl⟩
    · exact Or.inr ⟨_, rfl⟩
  · exact Or.inl rfl

theorem countFalls_open {d : Fin 16} (h : (k.doors[d]).state ≠ .closePending) (exempt : Option (Fin 16)) :
    k.countFalls d exempt = k.modDoor d (fun dr => { dr with through := dr.through - 1 }) := by
  unfold countFalls
  dsimp only
  refine if_neg (fun ⟨_, hstate, _⟩ => h ?_)
  rwa [modDoor_doors, tmod_same] at hstate

theorem countFalls_moves (d : Fin 16) (exempt : Option (Fin 16)) (z : Fin 8) :
    ((k.countFalls d exempt).defrosts[z]).moves = (k.defrosts[z]).moves := by
  rcases countFalls_cases (k := k) d exempt with h | ⟨st, h⟩
  · rw [h]; rfl
  · rw [h, changeState_moves]; rfl

theorem countFalls_door (d e : Fin 16) (exempt : Option (Fin 16)) :
    ((k.countFalls d exempt).doors[e]).through = (k.doors[e]).through - (if d = e then 1 else 0) ∧
    ((k.countFalls d exempt).doors[e]).trailer = (k.doors[e]).trailer := by
  have hwritten : ((k.modDoor d (fun dr => { dr with through := dr.through - 1 })).doors[e]).through =
      (k.doors[e]).through - (if d = e then 1 else 0) ∧
      ((k.modDoor d (fun dr => { dr with through := dr.through - 1 })).doors[e]).trailer = (k.doors[e]).trailer := by
    rw [modDoor_doors, tmod_get]
    by_cases h : d = e
    · rw [if_pos h, if_pos h]; exact ⟨rfl, rfl⟩
    · rw [if_neg h, if_neg h]; exact ⟨rfl, rfl⟩
  rcases countFalls_cases (k := k) d exempt with h | ⟨st, h⟩
  · rw [h]; exact hwritten
  · rw [h]
    by_cases hde : d = e
    · subst hde
      rw [changeState_door]
      exact hwritten
    · rw [changeState_door_other st hde]
      exact hwritten

theorem falls_door (ds : List (Fin 16)) (exempt : Option (Fin 16)) (e : Fin 16) :
    ((ds.foldl (fun k x => k.countFalls x exempt) k).doors[e]).through = (k.doors[e]).through - ds.count e ∧
    ((ds.foldl (fun k x => k.countFalls x exempt) k).doors[e]).trailer = (k.doors[e]).trailer := by
  induction ds generalizing k with
  | nil => exact ⟨rfl, rfl⟩
  | cons d rest ih =>
    obtain ⟨hthrough, htrailer⟩ := ih (k := k.countFalls d exempt)
    obtain ⟨hthrough', htrailer'⟩ := countFalls_door (k := k) d e exempt
    rw [List.foldl_cons, hthrough, htrailer, hthrough', htrailer', List.count_cons]
    refine ⟨?_, rfl⟩
    by_cases h : d = e
    · simp only [h, if_true, beq_self_eq_true]; omega
    · simp only [h, if_false, beq_iff_eq]; omega

theorem doorsFall_moves (m : Descriptor) (exempt : Option (Fin 16)) (z : Fin 8) :
    ((k.doorsFall m exempt).defrosts[z]).moves = (k.defrosts[z]).moves :=
  foldl_keeps (fun k : Dock => (k.defrosts[z]).moves) _ (fun _ d => countFalls_moves d exempt z) _ _

/-- R91: with no endpoint door in CLOSE_PENDING the falls write counts alone. -/
theorem falls_open {ds : List (Fin 16)} (h : ∀ d ∈ ds, (k.doors[d]).state ≠ .closePending) (exempt : Option (Fin 16)) :
    (ds.foldl (fun k x => k.countFalls x exempt) k).defrosts = k.defrosts ∧
    (ds.foldl (fun k x => k.countFalls x exempt) k).zones = k.zones := by
  induction ds generalizing k with
  | nil => exact ⟨rfl, rfl⟩
  | cons d rest ih =>
    have hfirst := countFalls_open (h d List.mem_cons_self) exempt
    have hrest : ∀ e ∈ rest, ((k.countFalls d exempt).doors[e]).state ≠ .closePending := fun e he => by
      rw [hfirst, modDoor_doors, tmod_get]
      split
      · exact h e (List.mem_cons_of_mem _ he)
      · exact h e (List.mem_cons_of_mem _ he)
    rw [List.foldl_cons, (ih hrest).1, (ih hrest).2, hfirst]
    exact ⟨rfl, rfl⟩

/-! ### The end of a move in the Defrost Controller (R118) -/

theorem moveEnded_flights (r : Fin 20) : (k.moveEnded r).flights = tmod k.flights r (fun _ => []) :=
  foldl_keeps Dock.flights (fun k z => k.changeMoves z (· - 1)) (fun k z => by simp) _ _

theorem moveEnded_unwatched (r : Fin 20) : (k.moveEnded r).unwatched = k.unwatched :=
  foldl_keeps Dock.unwatched (fun k z => k.changeMoves z (· - 1)) (fun _ z => changeMoves_unwatched z _) _ _

theorem moveEnded_defrost (r : Fin 20) (z : Fin 8) : ((k.moveEnded r).defrosts[z]).settled =
    { (k.defrosts[z]).settled with moves := (k.defrosts[z]).moves - (k.flights[r]).count z } := by
  exact (changes_moves (k := { k with flights := tmod k.flights r (fun _ => []) }) (· - 1) _ z).trans
    (by rw [show (fun n : Nat => n - 1) = Nat.pred from rfl, Nat.pred_iterate])

/-! ### The accepted place (R67) -/

/-- R66: the PICKED head that a place ends. -/
theorem placeRing_head {loc : Spot} {tag : Word} {r : Fin 20} {m : Descriptor} {rest : List Descriptor}
    (h : k.placeRing loc tag = some r) (hwaiting : (k.rings[r]).waiting = m :: rest) : m.tag = tag ∧ m.dest = loc := by
  have hplace := List.find?_some h
  rw [hwaiting] at hplace
  simp only [List.head?_cons, Bool.and_eq_true, decide_eq_true_eq] at hplace
  exact ⟨hplace.1.2, hplace.2⟩

theorem placeScan_accepted {t : Fin 24} {loc : Spot} {tag : Word} {r : Fin 20} {m : Descriptor} {rest : List Descriptor}
    (h : k.placeRing loc tag = some r) (hwaiting : (k.rings[r]).waiting = m :: rest) :
    k.placeScan t loc tag = k.acceptPlace t r m := by
  unfold placeScan
  rw [h]
  dsimp only
  rw [hwaiting]
  rfl

/-- R49, R67: the pallet and the counts of an accepted place. -/
def placeWritten (k : Dock) (m : Descriptor) (slot : Nat) : Dock :=
  (k.relocate slot (.at m.dest)).destCounts m.dest (· + 1) (· - 1)

/-- R68, R69: the move's end at DS and DC, and the room quantum. -/
def placeHanded (k : Dock) (r : Fin 20) (m : Descriptor) (slot : Nat) : Dock :=
  (((k.placeWritten m slot).doorsFall m none).moveEnded r).roomQuantum (k.spotZone m.dest) (k.spotZone m.source)

end Dock

/-- A step that writes notices and the alarm list alone. -/
def Dock.Reported (k k' : Dock) : Prop :=
  k'.rings = k.rings ∧ k'.pallets = k.pallets ∧ k'.lanes = k.lanes ∧ k'.doors = k.doors ∧ k'.flights = k.flights ∧
  k'.defrosts = k.defrosts ∧ k'.nodes = k.nodes

namespace Dock

variable {k k' : Dock}

theorem acceptPlace_eq (t : Fin 24) (r : Fin 20) {m : Descriptor} {slot : Nat} {p : Pallet}
    (hp : k.findTag m.tag = some (slot, p)) : ∃ k', (k.placeHanded r m slot).Reported k' ∧
      k.acceptPlace t r m = (k'.advance r { m with status := .placed }).giveVerdict t .accept m.tag := by
  unfold acceptPlace
  rw [hp]
  refine ⟨_, ?_, rfl⟩
  dsimp only
  split
  · simp [Reported, placeHanded, placeWritten, moveOver]
  · simp [Reported, placeHanded, placeWritten, moveOver]

/-! R67: what the place has written before its ring advances. -/

section

variable (r : Fin 20) (m : Descriptor) (slot : Nat)

theorem placeHanded_frame : (k.placeHanded r m slot).rings = k.rings ∧ (k.placeHanded r m slot).nodes = k.nodes ∧
    (k.placeHanded r m slot).lanes = (k.placeWritten m slot).lanes ∧
    (k.placeHanded r m slot).doors = ((k.placeWritten m slot).doorsFall m none).doors ∧
    (k.placeHanded r m slot).pallets = ((k.placeWritten m slot).doorsFall m none).pallets := by
  simp [placeHanded, placeWritten]

theorem placeHanded_lane (n : Fin 24) : (k.placeHanded r m slot).lanes[n] = if m.dest = .lane n then
    { k.lanes[n] with occupied := (k.lanes[n]).occupied + 1, reserved := (k.lanes[n]).reserved - 1 }
    else k.lanes[n] := by
  have hsame : (k.relocate slot (.at m.dest)).lanes = k.lanes := by simp
  obtain ⟨-, -, hlanes, -, -⟩ := k.placeHanded_frame r m slot
  rw [hlanes, placeWritten, destCounts_lane, hsame]

theorem placeHanded_door (d : Fin 16) :
    ((k.placeHanded r m slot).doors[d]).through = (k.doors[d]).through - m.doors.count d ∧
    ((k.placeHanded r m slot).doors[d]).trailer = if m.dest = .trailer d then
      (k.doors[d]).trailer.map (fun t => { t with direction := outboundCounts (· + 1) (· - 1) t.direction })
      else (k.doors[d]).trailer := by
  have hsame : (k.relocate slot (.at m.dest)).doors = k.doors := by simp
  obtain ⟨-, -, -, hdoors, -⟩ := k.placeHanded_frame r m slot
  obtain ⟨hthrough, htrailer⟩ := falls_door (k := k.placeWritten m slot) m.doors none d
  rw [hdoors, doorsFall, hthrough, htrailer, placeWritten, destCounts_door, hsame]
  split
  · exact ⟨rfl, rfl⟩
  · exact ⟨rfl, rfl⟩

theorem placeHanded_locAt {p : Pallet} (h : k.palletAt slot = some p) :
    (k.placeHanded r m slot).locAt slot = some (.at m.dest) := by
  obtain ⟨-, -, -, -, hpallets⟩ := k.placeHanded_frame r m slot
  have hsame : (k.placeWritten m slot).pallets = (k.relocate slot (.at m.dest)).pallets := by simp [placeWritten]
  rw [locAt_of_pallets hpallets, doorsFall_locAt, locAt_of_pallets hsame]
  exact locAt_eq_some_iff.mpr (palletAt_relocate _ h)

theorem placeHanded_flights : (k.placeHanded r m slot).flights = tmod k.flights r (fun _ => []) := by
  have hlast : (k.placeHanded r m slot).flights = (((k.placeWritten m slot).doorsFall m none).moveEnded r).flights := by
    simp only [placeHanded, roomQuantum_frame]
  have hsame : ((k.placeWritten m slot).doorsFall m none).flights = k.flights := by simp [placeWritten]
  rw [hlast, moveEnded_flights, hsame]

/-- R118: the end of the move at DC, zone by zone. -/
theorem placeEnded_defrost (z : Fin 8) :
    ((((k.placeWritten m slot).doorsFall m none).moveEnded r).defrosts[z]).settled =
      { (((k.placeWritten m slot).doorsFall m none).defrosts[z]).settled with
        moves := (k.defrosts[z]).moves - (k.flights[r]).count z } := by
  have hflights : ((k.placeWritten m slot).doorsFall m none).flights = k.flights := by simp [placeWritten]
  have hwritten : (k.placeWritten m slot).defrosts = k.defrosts := by simp [placeWritten]
  rw [moveEnded_defrost, hflights, doorsFall_moves, hwritten]

theorem placeHanded_moves (z : Fin 8) :
    ((k.placeHanded r m slot).defrosts[z]).moves = (k.defrosts[z]).moves - (k.flights[r]).count z := by
  have hended := congrArg Defrost.moves (placeEnded_defrost (k := k) r m slot z)
  have hquantum := congrArg Defrost.moves (roomQuantum_defrost
    (k := ((k.placeWritten m slot).doorsFall m none).moveEnded r) (k.spotZone m.dest) (k.spotZone m.source) z)
  refine Eq.trans (b := ((((k.placeWritten m slot).doorsFall m none).moveEnded r).defrosts[z]).moves) ?_ hended
  split at hquantum
  · exact hquantum
  · exact hquantum

theorem placeHanded_frost (hopen : ∀ d ∈ m.doors, (k.doors[d]).state ≠ .closePending) (z : Fin 8) :
    ((k.placeHanded r m slot).defrosts[z]).frost =
      if (k.zones[z]).kind = .frozenRoom ∧ k.spotZone m.dest = some z ∧ k.spotZone m.source ≠ some z then
        min 65535 ((k.defrosts[z]).frost + (k.defrosts[z]).config.quantum)
      else (k.defrosts[z]).frost := by
  have hstates : ∀ d ∈ m.doors, ((k.placeWritten m slot).doors[d]).state ≠ .closePending := fun d hd => by
    have hsame : (k.relocate slot (.at m.dest)).doors = k.doors := by simp
    rw [placeWritten, destCounts_door, hsame]
    split
    · exact hopen d hd
    · exact hopen d hd
  obtain ⟨hdefrosts, hzones⟩ := falls_open hstates none
  have hwritten : (k.placeWritten m slot).defrosts = k.defrosts ∧ (k.placeWritten m slot).zones = k.zones := by
    simp [placeWritten]
  have hfell : ((k.placeWritten m slot).doorsFall m none).defrosts = k.defrosts := hdefrosts.trans hwritten.1
  have hkind : ((((k.placeWritten m slot).doorsFall m none).moveEnded r).zones[z]).kind = (k.zones[z]).kind :=
    zone_kind_of_unwatched ((moveEnded_unwatched r).trans (unwatched_of_zones (hzones.trans hwritten.2))) z
  have hended := placeEnded_defrost (k := k) r m slot z
  rw [hfell] at hended
  have hfrost : ((((k.placeWritten m slot).doorsFall m none).moveEnded r).defrosts[z]).frost =
      (k.defrosts[z]).frost := by
    have hfield := congrArg Defrost.frost hended
    exact hfield
  have hconfig :
      ((((k.placeWritten m slot).doorsFall m none).moveEnded r).defrosts[z]).config = (k.defrosts[z]).config := by
    have hfield := congrArg Defrost.config hended
    exact hfield
  have hquantum := congrArg Defrost.frost (roomQuantum_defrost
    (k := ((k.placeWritten m slot).doorsFall m none).moveEnded r) (k.spotZone m.dest) (k.spotZone m.source) z)
  rw [hkind, hfrost, hconfig] at hquantum
  by_cases hroom : (k.zones[z]).kind = .frozenRoom ∧ k.spotZone m.dest = some z ∧ k.spotZone m.source ≠ some z
  · rw [if_pos hroom] at hquantum ⊢
    exact hquantum
  · rw [if_neg hroom] at hquantum ⊢
    exact hquantum.trans hfrost

end

end Dock

/-- Settles O35. -/
theorem placeAccepted : Obligations.PlaceAccepted := by
  intro k t loc tag r m rest slot p hplace hwaiting hp k'
  obtain ⟨rfl, rfl⟩ := Dock.placeRing_head hplace hwaiting
  obtain ⟨q, hq⟩ := Dock.findTag_palletAt hp
  obtain ⟨k3, ⟨hrings, hpallets, hlanes, hdoors, hflights, hdefrosts, hnodes⟩, haccept⟩ := Dock.acceptPlace_eq t r hp
  have hk' : k' = (k3.advance r { m with status := .placed }).giveVerdict t .accept m.tag :=
    (Dock.placeScan_accepted hplace hwaiting).trans haccept
  obtain ⟨hrings', hnodes', -, -, -⟩ := k.placeHanded_frame r m slot
  have hring : k'.rings[r] = (k.rings[r]).advanced { m with status := .placed } := by
    have hlast : k'.rings = (k3.advance r { m with status := .placed }).rings := by rw [hk']; simp
    rw [hlast, Dock.advance_rings, tmod_same, hrings, hrings']
  have hfields : k'.pallets = k3.pallets ∧ k'.lanes = k3.lanes ∧ k'.doors = k3.doors ∧ k'.flights = k3.flights ∧
      k'.defrosts = k3.defrosts := by rw [hk']; simp
  obtain ⟨hpallets', hlanes', hdoors', hflights', hdefrosts'⟩ := hfields
  have htail : (k.rings[r]).waiting.tail = rest := by rw [hwaiting]; rfl
  refine ⟨?_, ?_, ?_, fun hempty => ?_, fun hmore => ?_, ?_, fun n => ?_, fun d => ?_, ?_, fun q hq => ?_, fun z => ?_,
    fun hopen z => ?_, fun hfitted => ?_⟩
  · rw [hring]; exact htail
  · rw [hring]; rfl
  · rw [hring]; rfl
  · rw [hring, Ring.advanced, htail, hempty]; exact ⟨rfl, rfl⟩
  · rw [hring, Ring.advanced, htail]; exact if_neg (by simpa using hmore)
  · refine Dock.locAt_eq_some_iff.mp ?_
    rw [Dock.locAt_of_pallets (hpallets'.trans hpallets)]
    exact Dock.placeHanded_locAt r m slot hq
  · rw [hlanes', hlanes]; exact Dock.placeHanded_lane r m slot n
  · obtain ⟨hthrough, htrailer⟩ := Dock.placeHanded_door (k := k) r m slot d
    rw [hdoors', hdoors, hthrough, htrailer]
    refine ⟨rfl, ?_⟩
    cases (k.doors[d]).trailer with
    | none => simp
    | some trailer =>
      obtain ⟨trailerId, direction⟩ := trailer
      by_cases h : m.dest = .trailer d
      · cases direction <;> simp [Dock.outboundCounts, h]
      · cases direction <;> simp [h]
  · rw [hflights', hflights, Dock.placeHanded_flights, tmod_same]
  · rw [hflights', hflights, Dock.placeHanded_flights, tmod_ne _ _ (Ne.symm hq)]
  · rw [hdefrosts', hdefrosts]; exact Dock.placeHanded_moves r m slot z
  · rw [hdefrosts', hdefrosts]; exact Dock.placeHanded_frost r m slot hopen z
  · rw [hk']
    refine (Dock.giveVerdict_node ((Dock.nodeFitted_of_nodes ?_ _).trans hfitted) _ _).1
    simp only [Dock.advance_frame, hnodes, hnodes']

end Sys2Proof.Machine

/-! PROOFS. The Field Loop (R180 to R186): its transactions, what a good reply leaves in a node's record, and what
the loss of a node does to doors, coil readings and channels (R102, R123, R142). -/

namespace Sys2Proof.Machine

/-! ### Status and misses of the nodes (R185) -/

namespace Dock

variable {k k' : Dock}

/-- R177: status and misses of every node. -/
def contacts (k : Dock) : Table (NodeStatus × Nat) 48 := k.nodes.map (fun nd => (nd.status, nd.misses))

theorem contacts_of_nodes (h : k'.nodes = k.nodes) : k'.contacts = k.contacts := by simp only [contacts, h]

theorem node_of_contacts (h : k'.contacts = k.contacts) (n : Fin 48) :
    (k'.nodes[n]).status = (k.nodes[n]).status ∧ (k'.nodes[n]).misses = (k.nodes[n]).misses := by
  have hpair := congrArg (fun t : Table (NodeStatus × Nat) 48 => t[n]) h
  simpa [contacts] using hpair

/-- R182: a verdict touches neither status nor misses. -/
theorem giveVerdict_contacts (t : Fin 24) (v : Verdict) (tag : Word) :
    (k.giveVerdict t v tag).contacts = k.contacts := by
  unfold giveVerdict
  split
  · unfold contacts
    ext i hi : 1
    have hget (f : Node → Node) : (tmod k.nodes (terminalNode t) f)[i] =
        if terminalNode t = ⟨i, hi⟩ then f k.nodes[i] else k.nodes[i] := tmod_get k.nodes _ ⟨i, hi⟩ f
    rw [Vector.getElem_map, Vector.getElem_map, modNode_nodes, hget]
    split <;> rfl
  · rfl

theorem scanRefused_contacts (t : Fin 24) (scan : ScanKind) (tag : Word) (v : Verdict) (ring : Option (Fin 20)) :
    (k.scanRefused t scan tag v ring).contacts = k.contacts :=
  (giveVerdict_contacts t v tag).trans (contacts_of_nodes (by simp))

theorem unplanned_contacts (t : Fin 24) (loc : Spot) (tag : Word) : (k.unplanned t loc tag).contacts = k.contacts :=
  contacts_of_nodes (by simp)

theorem storeRefusal_contacts (r : Fin 20) (v : Verdict) (tag : Word) (t : Fin 24) :
    (k.storeRefusal r v tag t).contacts = k.contacts := rfl

theorem acceptPick_contacts (t : Fin 24) (r : Fin 20) (m : Descriptor) (slot : Nat) :
    (k.acceptPick t r m slot).contacts = k.contacts := by
  rw [acceptPick_eq, giveVerdict_contacts]
  exact contacts_of_nodes (by simp [pickWritten])

theorem acceptPlace_contacts (t : Fin 24) (r : Fin 20) (m : Descriptor) :
    (k.acceptPlace t r m).contacts = k.contacts := by
  refine (giveVerdict_contacts t .accept m.tag).trans (contacts_of_nodes ?_)
  (repeat' split) <;> simp

theorem pickScan_contacts (t : Fin 24) (loc : Spot) (tag : Word) : (k.pickScan t loc tag).contacts = k.contacts := by
  unfold pickScan
  (repeat' split) <;>
    simp only [scanRefused_contacts, unplanned_contacts, storeRefusal_contacts, acceptPick_contacts]

theorem placeScan_contacts (t : Fin 24) (loc : Spot) (tag : Word) : (k.placeScan t loc tag).contacts = k.contacts := by
  unfold placeScan
  (repeat' split) <;> simp only [scanRefused_contacts, acceptPlace_contacts]

theorem scan_contacts (t : Fin 24) (kind : ScanKind) (tag : Word) : (k.scan t kind tag).contacts = k.contacts := by
  unfold scan
  (repeat' split) <;> simp only [scanRefused_contacts, pickScan_contacts, placeScan_contacts]

/-- R185: a report handed on after the node's record has been written. -/
theorem goodReply_contacts (n : Fin 48) (rep : Report) :
    (k.goodReply n rep).contacts = (k.nodeAnswered n).contacts := by
  unfold goodReply
  dsimp only
  split
  · exact contacts_of_nodes (by simp only [handDoorReport_frame])
  · exact contacts_of_nodes (by simp only [handZoneReport_frame])
  · exact scan_contacts _ _ _
  · rfl

/-- R185: a fitted node's record after a good reply. -/
theorem nodeAnswered_node {n : Fin 48} (h : (k.nodes[n]).status ≠ .notFitted) :
    ((k.nodeAnswered n).nodes[n]).status = .online ∧ ((k.nodeAnswered n).nodes[n]).misses = 0 := by
  unfold nodeAnswered
  cases hstatus : (k.nodes[n]).status with
  | notFitted => exact absurd hstatus h
  | online =>
    dsimp only
    rw [modNode_nodes, tmod_same]
    exact ⟨hstatus, rfl⟩
  | lost =>
    dsimp only
    have hnodes (k : Dock) (a : AlarmKind) (subj : Subject) : (k.clearCondition a subj).nodes = k.nodes := by simp
    rw [hnodes, modNode_nodes, tmod_same]
    exact ⟨rfl, rfl⟩

/-! ### A missing reply (R186) -/

theorem missedReply_early {n : Fin 48} (h : (k.nodes[n]).status = .online) (hmisses : (k.nodes[n]).misses < 2) :
    k.missedReply n = k.modNode n (fun nd => { nd with misses := nd.misses + 1 }) := by
  unfold missedReply; rw [h]; exact if_pos hmisses

theorem missedReply_lost {n : Fin 48} (h : (k.nodes[n]).status = .lost) : k.missedReply n = k := by
  unfold missedReply; rw [h]

/-- R186: a node's record at its third miss, and the alarm. -/
def lostNode (k : Dock) (n : Fin 48) : Dock :=
  (k.modNode n ({ · with misses := 3, status := .lost })).raise .nodeLost (.node n)

theorem missedReply_third {n : Fin 48} (h : (k.nodes[n]).status = .online) (hmisses : 2 ≤ (k.nodes[n]).misses) :
    k.missedReply n = (k.lostNode n).tellLoss n := by
  unfold missedReply; rw [h]; exact if_neg (Nat.not_lt.mpr hmisses)

theorem lostNode_frame (n : Fin 48) : (k.lostNode n).channels = k.channels ∧ (k.lostNode n).doors = k.doors ∧
    (k.lostNode n).zones = k.zones ∧ (k.lostNode n).defrosts = k.defrosts ∧ (k.lostNode n).running = k.running ∧
    (k.lostNode n).nodes = tmod k.nodes n ({ · with misses := 3, status := .lost }) := by
  simp [lostNode]

theorem tellLoss_door (d : Fin 16) : k.tellLoss (doorNode d) =
    ((k.suspendCheck (blowerOf d)).suspendCheck (driveOf d)).doorNodeLost d := by
  unfold tellLoss; rw [nodeSubject_doorNode]

theorem tellLoss_zone (z : Fin 8) : k.tellLoss (zoneNode z) =
    ((k.suspendCheck (heaterOf z)).suspendCheck (fansOf z)).modDefrost z ({ · with coil := none }) := by
  unfold tellLoss; rw [nodeSubject_zoneNode]

theorem tellLoss_terminal (t : Fin 24) : k.tellLoss (terminalNode t) = k := by
  unfold tellLoss; rw [nodeSubject_terminalNode]

end Dock

/-! ### Channels with feedback UNKNOWN (R142) -/

/-- R142: a channel at its node's loss. -/
def Channel.SuspendedFrom (before after : Channel) : Prop :=
  after.feedback = none ∧ (∀ kind, before.check = .raised kind → after.check = .raised kind) ∧
  ((∀ kind, before.check ≠ .raised kind) → after.check = .suspended)

namespace Dock

variable {k k' : Dock}

theorem suspendCheck_same (c : Fin 48) : (k.channels[c]).SuspendedFrom (k.suspendCheck c).channels[c] := by
  rw [suspendCheck_channel]
  refine ⟨rfl, fun kind h => ?_, fun h => ?_⟩
  · dsimp only; rw [h]
  · dsimp only
    cases hcheck : (k.channels[c]).check with
    | raised kind => exact absurd hcheck (h kind)
    | _ => rfl

theorem suspendCheck_other {c j : Fin 48} (h : c ≠ j) : (k.suspendCheck c).channels[j] = k.channels[j] :=
  modChannel_other _ h

/-- Both checks of a node suspended. -/
theorem suspendBoth {c j : Fin 48} (h : c ≠ j) :
    (k.channels[c]).SuspendedFrom ((k.suspendCheck c).suspendCheck j).channels[c] ∧
    (k.channels[j]).SuspendedFrom ((k.suspendCheck c).suspendCheck j).channels[j] := by
  refine ⟨?_, ?_⟩
  · rw [suspendCheck_other h.symm]; exact suspendCheck_same c
  · have hsame := suspendCheck_same (k := k.suspendCheck c) j
    rwa [suspendCheck_other h] at hsame

/-- R142: what a command leaves of a channel whose feedback is UNKNOWN. -/
def UnknownKept (before after : Channel) : Prop := before.feedback = none →
  after.feedback = none ∧ after.check = before.check

theorem UnknownKept.suspended {ch before after : Channel} (h : UnknownKept before after)
    (hs : ch.SuspendedFrom before) :
    ch.SuspendedFrom after := by
  obtain ⟨hfeedback, hraised, hother⟩ := hs
  obtain ⟨hfeedback', hcheck⟩ := h hfeedback
  exact ⟨hfeedback', fun kind hk => hcheck.trans (hraised kind hk), fun hk => hcheck.trans (hother hk)⟩

theorem command_unknownKept (c j : Fin 48) (lv : Level) : UnknownKept k.channels[j] (k.command c lv).channels[j] := by
  intro hfeedback
  by_cases hc : c = j
  · subst hc
    cases howner : (k.channels[c]).owner with
    | manual => rw [command_manual howner]; exact ⟨hfeedback, rfl⟩
    | sequencer =>
      have hnone : ((k.modChannel c ({ · with latch := lv, armed := true })).channels[c]).feedback = none := by
        rw [modChannel_same]; exact hfeedback
      rw [command_sequencer howner]
      rcases recompute_unknown hnone with h | h
      · rw [h, modChannel_same]; exact ⟨hfeedback, rfl⟩
      · rw [h, modChannel_same, modChannel_same]; exact ⟨hfeedback, rfl⟩
  · rw [command_other lv hc]; exact ⟨hfeedback, rfl⟩

theorem UnknownKept.trans {a b c : Channel} (h : UnknownKept a b) (h' : UnknownKept b c) :
    UnknownKept a c := fun ha => by
  obtain ⟨hb, hcheck⟩ := h ha
  obtain ⟨hc, hcheck'⟩ := h' hb
  exact ⟨hc, hcheck'.trans hcheck⟩

theorem UnknownKept.of_eq {a b : Channel} (h : b = a) : UnknownKept a b := fun ha => ⟨h ▸ ha, by rw [h]⟩

theorem commandDoor_unknownKept (d : Fin 16) (j : Fin 48) :
    UnknownKept k.channels[j] (k.commandDoor d).channels[j] := by
  unfold commandDoor
  dsimp only
  split
  · split
    · exact .of_eq rfl
    · exact command_unknownKept (blowerOf d) j _
  · split
    · exact command_unknownKept (driveOf d) j _
    · exact UnknownKept.trans (command_unknownKept (blowerOf d) j _) (command_unknownKept (driveOf d) j _)

theorem changeState_unknownKept {j : Fin 48} (hj : j.val < 32) (d : Fin 16) (st : DoorState) :
    UnknownKept k.channels[j] (k.changeState d st).channels[j] := by
  rw [changeState_eq, enterState_channels]
  have hkept := commandDoor_unknownKept (k := (k.passage d st).writeState d st) d j
  rwa [show ((k.passage d st).writeState d st).channels[j] = k.channels[j] from passage_channel hj d st] at hkept

end Dock

/-! ### The loss of a door's node (R102) -/

/-- R102: the leak-grace timer of a door whose node is LOST is discarded. -/
def Door.ungraced (dr : Door) : Door := { dr with timers := { dr.timers with leakGrace := none } }

/-- R102: a state that goes to FAULT at the loss whatever crosses the door. -/
def DoorState.faultsAtLoss : DoorState → Bool
  | .vacant | .arrived | .assigned | .inflating | .sealed | .opening | .closing | .deflating | .released => true
  | .open | .closePending | .fault | .outOfService | .resync => false

/-- A door that enters a state without a leak-grace timer has none there. -/
theorem Door.enter_leakGrace {dr : Door} (h : dr.timers.leakGrace = none) (st : DoorState) (ps : Bool) (now : Nat) :
    (dr.enter st ps now).timers.leakGrace = none := by
  simp [Door.enter, timersOn, h]

namespace Dock

variable {k : Dock}

variable {d : Fin 16}

/-- R102: the door with its leak-grace timer discarded. -/
def ungraceDoor (k : Dock) (d : Fin 16) : Dock := k.modTimers d ({ · with leakGrace := none })

theorem ungraceDoor_door : (k.ungraceDoor d).doors[d] = Door.ungraced k.doors[d] := by
  rw [ungraceDoor, modTimers, modDoor_doors, tmod_same]; rfl

theorem doorNodeLost_idle
    (h : (k.doors[d]).state = .fault ∨ (k.doors[d]).state = .outOfService ∨ (k.doors[d]).state = .resync) :
    k.doorNodeLost d = k.ungraceDoor d := by
  unfold doorNodeLost
  dsimp only
  rcases h with h | h | h <;> rw [h] <;> rfl

theorem doorNodeLost_waiting (h : (k.doors[d]).state = .closePending) (hthrough : (k.doors[d]).through ≠ 0) :
    k.doorNodeLost d = k.ungraceDoor d := by
  unfold doorNodeLost
  dsimp only
  rw [h]
  exact if_neg hthrough

theorem doorNodeLost_crossed (h : (k.doors[d]).state = .open) (hthrough : (k.doors[d]).through ≠ 0) :
    k.doorNodeLost d =
      ((k.ungraceDoor d).modDoor d ({ · with closeRequested := true })).changeState d .closePending := by
  unfold doorNodeLost
  dsimp only
  rw [h]
  exact if_neg hthrough

theorem doorNodeLost_clear (h : (k.doors[d]).state = .open ∨ (k.doors[d]).state = .closePending)
    (hthrough : (k.doors[d]).through = 0) : k.doorNodeLost d = (k.ungraceDoor d).changeState d .fault := by
  unfold doorNodeLost
  dsimp only
  rcases h with h | h <;> rw [h] <;> exact if_pos hthrough

theorem doorNodeLost_faults (h : (k.doors[d]).state.faultsAtLoss = true) :
    k.doorNodeLost d = (k.ungraceDoor d).changeState d .fault := by
  unfold doorNodeLost
  dsimp only
  split
  next hstate => rw [hstate] at h; nomatch h
  next hstate => rw [hstate] at h; nomatch h
  next hstate => rw [hstate] at h; nomatch h
  next hstate => rw [hstate] at h; nomatch h
  next hstate => rw [hstate] at h; nomatch h
  next => rfl

/-- R102: the rows of the table in one. -/
theorem doorNodeLost_cases (k : Dock) (d : Fin 16) : k.doorNodeLost d = k.ungraceDoor d ∨
    k.doorNodeLost d = (k.ungraceDoor d).changeState d .fault ∨
    k.doorNodeLost d =
      ((k.ungraceDoor d).modDoor d ({ · with closeRequested := true })).changeState d .closePending := by
  unfold doorNodeLost
  dsimp only
  split
  · split
    · exact .inr (.inl rfl)
    · exact .inr (.inr rfl)
  · split
    · exact .inr (.inl rfl)
    · exact .inl rfl
  · exact .inl rfl
  · exact .inl rfl
  · exact .inl rfl
  · exact .inr (.inl rfl)

theorem doorNodeLost_leakGrace : ((k.doorNodeLost d).doors[d]).timers.leakGrace = none := by
  have hungraced : ((k.ungraceDoor d).doors[d]).timers.leakGrace = none := by rw [ungraceDoor_door]; rfl
  rcases doorNodeLost_cases k d with h | h | h
  · rw [h]; exact hungraced
  · rw [h, changeState_door]; exact Door.enter_leakGrace hungraced ..
  · rw [h, changeState_door, modDoor_doors, tmod_same]; exact Door.enter_leakGrace hungraced ..

theorem doorNodeLost_unknownKept {j : Fin 48} (hj : j.val < 32) (d : Fin 16) :
    UnknownKept k.channels[j] (k.doorNodeLost d).channels[j] := by
  rcases doorNodeLost_cases k d with h | h | h
  · rw [h]; exact .of_eq rfl
  · rw [h]; exact changeState_unknownKept (k := k.ungraceDoor d) hj d _
  · rw [h]
    exact changeState_unknownKept (k := (k.ungraceDoor d).modDoor d ({ · with closeRequested := true })) hj d _

theorem doorNodeLost_fault (h : k.doorNodeLost d = (k.ungraceDoor d).changeState d .fault) :
    ((k.doorNodeLost d).doors[d]).state = .fault := by
  rw [h, changeState_door]; rfl

theorem doorNodeLost_closePending
    (h : k.doorNodeLost d =
      ((k.ungraceDoor d).modDoor d ({ · with closeRequested := true })).changeState d .closePending) :
    ((k.doorNodeLost d).doors[d]).state = .closePending ∧ ((k.doorNodeLost d).doors[d]).closeRequested = true ∧
    ((k.doorNodeLost d).doors[d]).timers.closeWait = some k.running := by
  rw [h]
  refine ⟨by rw [changeState_door]; rfl, closeRequested_changeState (by decide), ?_⟩
  rw [changeState_door]
  rfl

/-! ### The neighbours told of a loss (R102, R123, R142) -/

/-- R186: a door's node at its third miss, before the Door Sequencer is told. -/
def doorSilenced (k : Dock) (d : Fin 16) : Dock :=
  ((k.lostNode (doorNode d)).suspendCheck (blowerOf d)).suspendCheck (driveOf d)

theorem doorSilenced_frame (d : Fin 16) :
    (k.doorSilenced d).doors = k.doors ∧ (k.doorSilenced d).running = k.running := by
  simp only [doorSilenced, suspendCheck_frame, lostNode_frame, and_self]

theorem missedReply_door (h : (k.nodes[doorNode d]).status = .online) (hmisses : 2 ≤ (k.nodes[doorNode d]).misses) :
    k.missedReply (doorNode d) = (k.doorSilenced d).doorNodeLost d := by
  rw [missedReply_third h hmisses, tellLoss_door, doorSilenced]

/-- R142: both channels of a node at its loss. -/
theorem doorSilenced_suspended (d : Fin 16) :
    (k.channels[blowerOf d]).SuspendedFrom (k.doorSilenced d).channels[blowerOf d] ∧
    (k.channels[driveOf d]).SuspendedFrom (k.doorSilenced d).channels[driveOf d] := by
  have hboth := suspendBoth (k := k.lostNode (doorNode d)) (blowerOf_ne_driveOf d)
  rwa [(lostNode_frame (k := k) (doorNode d)).1] at hboth

theorem heaterOf_ne_fansOf (z : Fin 8) : heaterOf z ≠ fansOf z := fun h => by
  have := congrArg Fin.val h
  simp only [heaterOf, fansOf] at this
  omega

/-- R123, R142: what the loss of a zone's node does. -/
theorem missedReply_zone {z : Fin 8} (h : (k.nodes[zoneNode z]).status = .online)
    (hmisses : 2 ≤ (k.nodes[zoneNode z]).misses) :
    (k.channels[heaterOf z]).SuspendedFrom (k.missedReply (zoneNode z)).channels[heaterOf z] ∧
    (k.channels[fansOf z]).SuspendedFrom (k.missedReply (zoneNode z)).channels[fansOf z] ∧
    ((k.missedReply (zoneNode z)).defrosts[z]).coil = none ∧
    (k.missedReply (zoneNode z)).zones = k.zones ∧ (k.missedReply (zoneNode z)).doors = k.doors := by
  obtain ⟨hchannels, hdoors, hzones, _⟩ := lostNode_frame (k := k) (zoneNode z)
  obtain ⟨hheater, hfans⟩ := suspendBoth (k := k.lostNode (zoneNode z)) (heaterOf_ne_fansOf z)
  rw [hchannels] at hheater hfans
  rw [missedReply_third h hmisses, tellLoss_zone]
  refine ⟨hheater, hfans, ?_, ?_, ?_⟩
  · rw [modDefrost_defrosts, tmod_same]
  · show (((k.lostNode (zoneNode z)).suspendCheck (heaterOf z)).suspendCheck (fansOf z)).zones = k.zones
    simp only [suspendCheck_frame, hzones]
  · show (((k.lostNode (zoneNode z)).suspendCheck (heaterOf z)).suspendCheck (fansOf z)).doors = k.doors
    simp only [suspendCheck_frame, hdoors]

theorem missedReply_terminal {t : Fin 24} (h : (k.nodes[terminalNode t]).status = .online)
    (hmisses : 2 ≤ (k.nodes[terminalNode t]).misses) :
    k.missedReply (terminalNode t) = k.lostNode (terminalNode t) := by
  rw [missedReply_third h hmisses, tellLoss_terminal]

/-- R186: the record of a node at its third miss. -/
theorem missedReply_node {n : Fin 48} (h : (k.nodes[n]).status = .online) (hmisses : 2 ≤ (k.nodes[n]).misses) :
    (k.missedReply n).nodes[n] = { k.nodes[n] with misses := 3, status := .lost } := by
  have hnodes : (k.missedReply n).nodes = (k.lostNode n).nodes := by
    rw [missedReply_third h hmisses]; simp only [tellLoss_frame]
  obtain ⟨_, _, _, _, _, hlost⟩ := lostNode_frame (k := k) n
  rw [hnodes, hlost, tmod_same]

end Dock

/-! ### Transactions (R180, R183) -/

namespace State

variable {s : State} {t : Transaction}

theorem sendPoll_idle {n : Fin 48} (h : s.transaction = none) (hn : s.dock.nextNode s.lastPolled = some n) :
    s.sendPoll = { s with lastPolled := some n, transaction := some { node := n, poll := s.dock.pollFrame n } } := by
  unfold sendPoll; rw [h, hn]

theorem takeReply_good {bytes : List Byte} {rep : Report} (h : s.transaction = some t)
    (hrep : readReport t.node bytes = some rep) : s.takeReply bytes true =
    ({ s with transaction := none } : State).on (s.dock.goodReply t.node rep) := by
  unfold takeReply; rw [h]; dsimp only; rw [hrep]; rfl

theorem takeReply_bad {bytes : List Byte} {inWindow : Bool} (h : s.transaction = some t)
    (hbad : inWindow = false ∨ readReport t.node bytes = none) : s.takeReply bytes inWindow =
    ({ s with transaction := none } : State).on (s.dock.missedReply t.node) := by
  unfold takeReply
  rw [h]
  dsimp only
  rcases hbad with rfl | hnone
  · rfl
  · rw [hnone]; cases inWindow <;> rfl

theorem missReply_running (h : s.transaction = some t) : s.missReply =
    ({ s with transaction := none } : State).on (s.dock.missedReply t.node) := by
  unfold missReply; rw [h]; rfl

end State

/-- Settles O53, clause by clause: the three events by `State.live`, a node's record by `Dock.contacts`, and what
is told at a loss by the kind of the node. -/
theorem fieldLoopTransactions : Obligations.FieldLoopTransactions := by
  intro s hlive
  have hevent {f : State → State} {s' : State} (h : f s = s') : (.next (s.live f) : Result) = .next s'.settle := by
    rw [live_of_live hlive, h]
  refine ⟨fun n h hn => ?_, fun t bytes rep h hrep => ?_, fun t bytes inWindow h hbad => ?_, fun t h => ?_,
    fun k n => Dock.missedReply_early, fun k n h hmisses => ?_, fun k n => Dock.missedReply_lost,
    fun k n rep h => ?_, fun k n h hmisses => ⟨?_, ?_, ?_⟩⟩
  · exact hevent (State.sendPoll_idle h hn)
  · exact hevent (f := (·.takeReply bytes true)) (State.takeReply_good h hrep)
  · exact hevent (f := (·.takeReply bytes inWindow)) (State.takeReply_bad h hbad)
  · exact hevent (State.missReply_running h)
  · rw [Dock.missedReply_node h hmisses]; exact ⟨rfl, rfl⟩
  · obtain ⟨hstatus, hmisses⟩ := Dock.node_of_contacts (Dock.goodReply_contacts n rep) n
    rw [hstatus, hmisses]
    exact Dock.nodeAnswered_node h
  · rintro d rfl
    obtain ⟨hdoors, hrunning⟩ := Dock.doorSilenced_frame (k := k) d
    obtain ⟨hblower, hdrive⟩ := Dock.doorSilenced_suspended (k := k) d
    dsimp only
    rw [Dock.missedReply_door h hmisses, ← hdoors, ← hrunning]
    have hidle (heq : (k.doorSilenced d).doorNodeLost d = (k.doorSilenced d).ungraceDoor d) :
        ((k.doorSilenced d).doorNodeLost d).doors[d] = Door.ungraced (k.doorSilenced d).doors[d] := by
      rw [heq, Dock.ungraceDoor_door]
    refine ⟨(Dock.doorNodeLost_unknownKept (blowerOf_lt d) d).suspended hblower,
      (Dock.doorNodeLost_unknownKept (driveOf_lt d) d).suspended hdrive, Dock.doorNodeLost_leakGrace,
      fun hst => hidle (Dock.doorNodeLost_idle hst), fun hst hth => hidle (Dock.doorNodeLost_waiting hst hth),
      fun hst hth => Dock.doorNodeLost_closePending (Dock.doorNodeLost_crossed hst hth),
      fun hst hth => Dock.doorNodeLost_fault (Dock.doorNodeLost_clear hst hth),
      fun hst => Dock.doorNodeLost_fault (Dock.doorNodeLost_faults ?_)⟩
    rcases hst with h | h | h | h | h | h | h | h | h <;> rw [h] <;> rfl
  · rintro z rfl
    exact Dock.missedReply_zone h hmisses
  · rintro t rfl
    obtain ⟨hchannels, hdoors, hzones, hdefrosts, _⟩ := Dock.lostNode_frame (k := k) (Dock.terminalNode t)
    have hnode := Dock.missedReply_node h hmisses
    rw [hnode, Dock.missedReply_terminal h hmisses]
    exact ⟨hdoors, hzones, hdefrosts, hchannels, rfl, rfl⟩

end Sys2Proof.Machine

/-! PROOFS. A door node report (R83): its steps one by one, and where the steps of each state lead the door. -/

namespace Sys2Proof.Machine

/-! ### Records and states in a report -/

section Derived

variable {dr : Door} {rep : DoorReport} (hpresence : rep.presence = true)
include hpresence

theorem Dock.derivedState_arrived (htrailer : dr.trailer = none) : Dock.derivedState dr rep = .arrived := by
  simp [Dock.derivedState, hpresence, htrailer]

variable (htrailer : dr.trailer ≠ none)
include htrailer

theorem Dock.derivedState_fault (hposition : rep.position ≠ .closed) : Dock.derivedState dr rep = .fault := by
  simp [Dock.derivedState, hpresence, htrailer, hposition]

variable (hposition : rep.position = .closed)
include hposition

theorem Dock.derivedState_sealed (hpressure : dr.config.hold ≤ rep.pressure) :
    Dock.derivedState dr rep = .sealed := by
  simp [Dock.derivedState, hpresence, htrailer, hposition, hpressure]

theorem Dock.derivedState_assigned (hpressure : rep.pressure < dr.config.hold) :
    Dock.derivedState dr rep = .assigned := by
  simp [Dock.derivedState, hpresence, htrailer, hposition, Nat.not_le.mpr hpressure]

end Derived

/-- What a derivation leaves of the flags and the grace timer. -/
def Door.Fresh (dr : Door) : Prop :=
  dr.sealLost = false ∧ dr.retry = 0 ∧ dr.timers.leakGrace = none

/-- R86: the states in which the seal or the door is engaged. -/
def DoorState.engaged : DoorState → Bool
  | .inflating | .sealed | .opening | .open | .closePending | .closing | .deflating => true
  | .vacant | .arrived | .assigned | .released | .fault | .outOfService | .resync => false

/-- The states in which steps 3 to 7 are taken. -/
def DoorState.acts : DoorState → Bool
  | .fault | .outOfService | .resync => false
  | _ => true

/-- R88, R91: where the pressure of a report takes a state. -/
def DoorState.pressed (st : DoorState) (c : DoorConfig) (pressure : Nat) : DoorState :=
  if st = .inflating ∧ c.hold ≤ pressure then .sealed
  else if st = .deflating ∧ pressure ≤ c.release then .released
  else st

namespace DoorState

variable {st : DoorState}

theorem engaged_of_notClosed (h : st.notClosed = true) : st.engaged = true := by
  revert h; cases st <;> decide

theorem acts_of_engaged (h : st.engaged = true) : st.acts = true := by
  revert h; cases st <;> decide

theorem acts_of_standsClosed (h : st.standsClosed = true) : st.acts = true := by
  revert h; cases st <;> decide

end DoorState

namespace Dock

variable {k : Dock} {d : Fin 16} {rep : DoorReport}

theorem raise_doors (a : AlarmKind) (subj : Subject) : (k.raise a subj).doors = k.doors := by simp only [raise_frame]

theorem clearCondition_doors (a : AlarmKind) (subj : Subject) : (k.clearCondition a subj).doors = k.doors := by
  simp only [clearCondition_frame]

theorem raise_if_doors (p : Prop) [Decidable p] (a : AlarmKind) (subj : Subject) :
    (if p then k.raise a subj else k).doors = k.doors := by
  split
  · exact raise_doors a subj
  · rfl

theorem clearCondition_if_doors (p : Prop) [Decidable p] (a : AlarmKind) (subj : Subject) :
    (if p then k.clearCondition a subj else k).doors = k.doors := by
  split
  · exact clearCondition_doors a subj
  · rfl

theorem changeState_state (d : Fin 16) (st : DoorState) : ((k.changeState d st).doors[d]).state = st := by
  rw [changeState_door]; rfl

/-! ### Step 1: the report recorded -/

theorem recordReport_door (d : Fin 16) (rep : DoorReport) : (k.recordReport d rep).doors[d] =
    { k.doors[d] with presence := rep.presence, pressure := rep.pressure, position := rep.position } := by
  rw [recordReport, modDoor_doors, tmod_same]

/-! ### Step 2: the derivation in RESYNC (R104) -/

/-- R104: the part before the derivation acts on the trailer part. -/
def resynced (k : Dock) (d : Fin 16) (rep : DoorReport) : Dock :=
  let k1 := k.modDoor d (fun dr =>
    { dr with sealLost := false, retry := 0, timers := { dr.timers with leakGrace := none } })
  if rep.position = .closed then k1.clearCondition .doorForced (.door d) else k1

theorem resynced_door (d : Fin 16) (rep : DoorReport) : (k.resynced d rep).doors[d] =
    { k.doors[d] with sealLost := false, retry := 0, timers := { (k.doors[d]).timers with leakGrace := none } } := by
  unfold resynced
  dsimp only
  rw [clearCondition_if_doors, modDoor_doors, tmod_same]

theorem changeState_fresh (h : Door.Fresh k.doors[d]) (st : DoorState) : Door.Fresh (k.changeState d st).doors[d] := by
  obtain ⟨hseal, hretry, hgrace⟩ := h
  rw [changeState_door]
  exact ⟨by rw [Door.enter, hseal]; rfl, hretry, Door.enter_leakGrace hgrace ..⟩

theorem derive_gone (hpresence : rep.presence = false) (htrailer : (k.doors[d]).trailer ≠ none) :
    k.derive d rep = ((k.resynced d rep).removeTrailer d).changeState d .vacant := by
  have hst : derivedState k.doors[d] rep = .vacant := if_pos hpresence
  have hsome : rep.presence = false ∧ (k.doors[d]).trailer.isSome = true :=
    ⟨hpresence, Option.isSome_iff_ne_none.mpr htrailer⟩
  unfold derive
  dsimp only
  rw [hst, if_pos hsome, if_neg (fun h => nomatch h)]
  rfl

/-- The derivation of a door that keeps its trailer part. -/
theorem derive_kept {st : DoorState} (hst : derivedState k.doors[d] rep = st)
    (hkept : rep.presence = true ∨ (k.doors[d]).trailer = none) : k.derive d rep =
    (if st = .fault then (k.resynced d rep).raise .doorForced (.door d) else k.resynced d rep).changeState d st := by
  have hno : ¬ (rep.presence = false ∧ (k.doors[d]).trailer.isSome = true) := by
    rintro ⟨hpresence, htrailer⟩
    rcases hkept with h | h
    · rw [h] at hpresence; nomatch hpresence
    · rw [h] at htrailer; nomatch htrailer
  unfold derive
  dsimp only
  rw [hst, if_neg hno]
  rfl

theorem derive_settles {st : DoorState} (hst : derivedState k.doors[d] rep = st) (hne : st ≠ .fault)
    (hkept : rep.presence = true ∨ (k.doors[d]).trailer = none) :
    k.derive d rep = (k.resynced d rep).changeState d st := by
  rw [derive_kept hst hkept, if_neg hne]

theorem derive_fault (hst : derivedState k.doors[d] rep = .fault) (hpresence : rep.presence = true) :
    k.derive d rep = ((k.resynced d rep).raise .doorForced (.door d)).changeState d .fault := by
  rw [derive_kept hst (.inl hpresence), if_pos rfl]

theorem resynced_fresh (d : Fin 16) (rep : DoorReport) : Door.Fresh (k.resynced d rep).doors[d] := by
  rw [resynced_door]; exact ⟨rfl, rfl, rfl⟩

theorem derive_fresh (d : Fin 16) (rep : DoorReport) : Door.Fresh (k.derive d rep).doors[d] := by
  by_cases hgone : rep.presence = false ∧ (k.doors[d]).trailer ≠ none
  · rw [derive_gone hgone.1 hgone.2]
    refine changeState_fresh ?_ _
    rw [removeTrailer_doors, tmod_same]
    exact resynced_fresh d rep
  · rw [derive_kept rfl (by rw [Classical.not_and_iff_not_or_not] at hgone; simpa using hgone)]
    refine changeState_fresh ?_ _
    rw [raise_if_doors]
    exact resynced_fresh d rep

theorem derive_trailer (hpresence : rep.presence = true) :
    ((k.derive d rep).doors[d]).trailer = (k.doors[d]).trailer := by
  rw [derive_kept rfl (.inl hpresence), changeState_door]
  show (Dock.doors (ite _ _ _))[d].trailer = _
  rw [raise_if_doors, resynced_door]

theorem derive_absent (hpresence : rep.presence = false) :
    ((k.derive d rep).doors[d]).state = .vacant ∧ ((k.derive d rep).doors[d]).trailer = none := by
  by_cases htrailer : (k.doors[d]).trailer = none
  · rw [derive_kept (if_pos hpresence) (.inr htrailer), if_neg (by decide), changeState_door, resynced_door]
    exact ⟨rfl, htrailer⟩
  · rw [derive_gone hpresence htrailer, changeState_door, removeTrailer_doors, tmod_same]
    exact ⟨rfl, rfl⟩

/-! ### Step 3: presence and absence (R84, R86) -/

theorem actPresence_arriving (hpresence : rep.presence = true) (hstate : (k.doors[d]).state = .vacant) :
    k.actPresence d rep = k.changeState d .arrived := by
  unfold actPresence; dsimp only; rw [if_pos hpresence, if_pos hstate]

theorem actPresence_staying (hpresence : rep.presence = true) (hstate : (k.doors[d]).state ≠ .vacant) :
    k.actPresence d rep = k := by
  unfold actPresence; dsimp only; rw [if_pos hpresence, if_neg hstate]

section Absent

variable (hpresence : rep.presence = false)
include hpresence

theorem actPresence_empty (hstate : (k.doors[d]).state = .vacant) : k.actPresence d rep = k := by
  unfold actPresence; dsimp only; rw [hpresence, hstate]; rfl

theorem actPresence_left (hstate : (k.doors[d]).state = .arrived) :
    k.actPresence d rep = k.changeState d .vacant := by
  unfold actPresence; dsimp only; rw [hpresence, hstate]; rfl

theorem actPresence_removed (hstate : (k.doors[d]).state = .assigned ∨ (k.doors[d]).state = .released) :
    k.actPresence d rep = (k.removeTrailer d).changeState d .vacant := by
  unfold actPresence
  dsimp only
  rcases hstate with h | h <;> rw [hpresence, h] <;> rfl

end Absent

theorem actPresence_torn (hpresence : rep.presence = false) (hstate : (k.doors[d]).state.engaged = true) :
    k.actPresence d rep = k.trailerLeft d := by
  unfold actPresence
  dsimp only
  rw [hpresence]
  revert hstate
  generalize (k.doors[d]).state = st
  cases st <;> simp [DoorState.engaged]

theorem trailerLeft_state (d : Fin 16) : ((k.trailerLeft d).doors[d]).state = .fault := by
  unfold trailerLeft
  dsimp only
  rw [raise_doors, enterState_doors, tmod_same]

/-! ### Steps 3 to 7 in their order -/

/-- R83 steps 3 to 7, on a recorded report of a door in a state that acts. -/
def actReport (k : Dock) (d : Fin 16) (rep : DoorReport) : Dock :=
  let k2 := k.actPresence d rep
  let st2 := (k2.doors[d]).state
  if st2 ≠ (k.doors[d]).state ∧ (st2 = .vacant ∨ st2 = .fault) then k2
  else if k2.isForced d rep then k2.forced d
  else k2.actRest d rep

theorem doorReport_idle (h : (k.doors[d]).state = .fault ∨ (k.doors[d]).state = .outOfService) :
    k.doorReport d rep = k.recordReport d rep := by
  unfold doorReport
  dsimp only
  rw [recordReport_door]
  dsimp only
  rcases h with h | h <;> rw [h]

theorem doorReport_resync (h : (k.doors[d]).state = .resync) :
    k.doorReport d rep = (k.recordReport d rep).derive d rep := by
  unfold doorReport
  dsimp only
  rw [recordReport_door]
  dsimp only
  rw [h]

theorem doorReport_acts (h : (k.doors[d]).state.acts = true) :
    k.doorReport d rep = (k.recordReport d rep).actReport d rep := by
  have hstate : ((k.recordReport d rep).doors[d]).state.acts = true := by rw [recordReport_door]; exact h
  unfold doorReport actReport
  revert hstate
  dsimp only
  generalize ((k.recordReport d rep).doors[d]).state = st
  cases st <;> simp [DoorState.acts]

/-- R84: a door whose trailer went. -/
theorem actReport_vacated {k0 : Dock} (hk2 : k.actPresence d rep = k0.changeState d .vacant)
    (hstate : (k.doors[d]).state ≠ .vacant) : k.actReport d rep = k0.changeState d .vacant := by
  unfold actReport
  dsimp only
  rw [hk2, changeState_state]
  exact if_pos ⟨hstate.symm, .inl rfl⟩

theorem not_done {k2 : Dock} (hst : (k2.doors[d]).state = (k.doors[d]).state ∨ (k2.doors[d]).state = .arrived) :
    ¬ ((k2.doors[d]).state ≠ (k.doors[d]).state ∧
    ((k2.doors[d]).state = .vacant ∨ (k2.doors[d]).state = .fault)) := by
  rintro ⟨hmoved, hdone⟩
  rcases hst with h | h
  · exact hmoved h
  · rw [h] at hdone; revert hdone; decide

section Act

variable {k2 : Dock} (hk2 : k.actPresence d rep = k2)
include hk2

/-- A door that presence or absence takes to VACANT or FAULT is done with. -/
theorem actReport_done (hmoved : (k2.doors[d]).state ≠ (k.doors[d]).state)
    (hst : (k2.doors[d]).state = .vacant ∨ (k2.doors[d]).state = .fault) : k.actReport d rep = k2 := by
  unfold actReport
  dsimp only
  rw [hk2]
  exact if_pos ⟨hmoved, hst⟩

variable (hst : (k2.doors[d]).state = (k.doors[d]).state ∨ (k2.doors[d]).state = .arrived)
include hst

/-- Step 4 (R101). -/
theorem actReport_forced (hclosed : (k2.doors[d]).state.standsClosed = true) (hposition : rep.position ≠ .closed) :
    k.actReport d rep = (k2.raise .doorForced (.door d)).changeState d .fault := by
  have hforced : k2.isForced d rep = true := by
    unfold isForced; rw [hclosed, decide_eq_true hposition]; rfl
  unfold actReport
  dsimp only
  rw [hk2, if_neg (not_done hst), if_pos hforced]
  rfl

/-- Steps 5 to 7. -/
theorem actReport_rest (h : (k2.doors[d]).state.standsClosed = false ∨ rep.position = .closed) :
    k.actReport d rep = k2.actRest d rep := by
  have hforced : ¬ (k2.isForced d rep = true) := by
    intro hforced
    obtain ⟨hclosed, hposition⟩ := (Bool.and_eq_true _ _).mp hforced
    rcases h with h | h
    · rw [h] at hclosed; nomatch hclosed
    · exact of_decide_eq_true hposition h
  unfold actReport
  dsimp only
  rw [hk2, if_neg (not_done hst), if_neg hforced]

end Act

/-! ### Step 7: pressure (R88, R98, R108) -/

theorem modTimers_door (f : DoorTimers → DoorTimers) : ((k.modTimers d f).doors[d]).state = (k.doors[d]).state ∧
    ((k.modTimers d f).doors[d]).retry = (k.doors[d]).retry := by
  rw [modTimers, modDoor_doors, tmod_same]; exact ⟨rfl, rfl⟩

theorem actLeak_door : ((k.actLeak d rep).doors[d]).state = (k.doors[d]).state ∧
    ((k.actLeak d rep).doors[d]).retry = (k.doors[d]).retry := by
  unfold actLeak
  dsimp only
  split
  · split
    · exact modTimers_door _
    · split
      · exact modTimers_door _
      · exact ⟨rfl, rfl⟩
  · exact ⟨rfl, rfl⟩

/-- A change of state under a condition. -/
theorem changeState_if (p : Prop) [Decidable p] (st : DoorState) :
    ((if p then k.changeState d st else k).doors[d]).state = (if p then st else (k.doors[d]).state) ∧
    ((if p then k.changeState d st else k).doors[d]).retry = (k.doors[d]).retry ∧
    ((if p then k.changeState d st else k).doors[d]).config = (k.doors[d]).config := by
  split
  · rw [changeState_door]; exact ⟨rfl, rfl, rfl⟩
  · exact ⟨rfl, rfl, rfl⟩

/-- The two changes of state that pressure makes, of which a report makes at most one. -/
theorem pressed_eq (st : DoorState) (c : DoorConfig) (pressure : Nat) :
    (if (if st = .inflating ∧ c.hold ≤ pressure then DoorState.sealed else st) = .deflating ∧ pressure ≤ c.release
      then DoorState.released else if st = .inflating ∧ c.hold ≤ pressure then .sealed else st) =
    st.pressed c pressure := by
  unfold DoorState.pressed
  split
  · exact if_neg (fun h => nomatch h.1)
  · rfl

theorem actPressure_door (d : Fin 16) (rep : DoorReport) :
    ((k.actPressure d rep).doors[d]).state = (k.doors[d]).state.pressed (k.doors[d]).config rep.pressure ∧
    ((k.actPressure d rep).doors[d]).retry = (k.doors[d]).retry := by
  have hcleared : (if (k.doors[d]).config.hold ≤ rep.pressure then k.clearCondition .sealLost (.door d) else k).doors =
      k.doors := clearCondition_if_doors _ _ _
  unfold actPressure
  dsimp only
  obtain ⟨hleakState, hleakRetry⟩ := actLeak_door (d := d) (rep := rep)
  rw [hleakState, hleakRetry]
  generalize
    (if (k.doors[d]).config.hold ≤ rep.pressure then k.clearCondition .sealLost (.door d) else k) = k1 at hcleared ⊢
  rw [(changeState_if _ _).1, (changeState_if _ _).2.1, (changeState_if _ _).1, (changeState_if _ _).2.1, hcleared]
  exact ⟨pressed_eq _ _ _, rfl⟩

/-! ### Steps 5 and 6: an obstruction and the end positions (R90, R95, R96) -/

theorem actObstruction_none (h : rep.obstruction = false ∨ (k.doors[d]).state ≠ .closing) :
    k.actObstruction d rep = k :=
  if_neg (fun hboth => h.elim (fun hno => by rw [hboth.1] at hno; nomatch hno) (fun hno => hno hboth.2))

/-- R96: the reversal. -/
theorem actObstruction_door (hobstruction : rep.obstruction = true) (hstate : (k.doors[d]).state = .closing) :
    ((k.actObstruction d rep).doors[d]).state = .opening ∧
    ((k.actObstruction d rep).doors[d]).retry = min 3 ((k.doors[d]).retry + 1) := by
  unfold actObstruction
  dsimp only
  by_cases hlast : min 3 ((k.doors[d]).retry + 1) = 3
  · rw [if_pos ⟨hobstruction, hstate⟩, if_pos hlast, raise_doors, modDoor_doors, tmod_same, changeState_door,
        modDoor_doors, tmod_same]
    exact ⟨rfl, rfl⟩
  · rw [if_pos ⟨hobstruction, hstate⟩, if_neg hlast, changeState_door, modDoor_doors, tmod_same]
    exact ⟨rfl, rfl⟩

theorem actTravel_none (hopening : (k.doors[d]).state = .opening → rep.position ≠ .open)
    (hclosing : (k.doors[d]).state ≠ .closing) : k.actTravel d rep = k := by
  unfold actTravel
  split
  next hstate hposition => exact absurd hposition (hopening hstate)
  next hstate _ => exact absurd hstate hclosing
  next => rfl

theorem completeClose_door (d : Fin 16) :
    ((k.completeClose d).doors[d]).state =
      (if (k.doors[d]).config.hold ≤ (k.doors[d]).pressure ∧ (k.doors[d]).sealLost = false then .sealed
        else .inflating) ∧
    ((k.completeClose d).doors[d]).config = (k.doors[d]).config := by
  unfold completeClose
  dsimp only
  split <;>
  · rw [changeState_door, clearCondition_doors, modDoor_doors, tmod_same]; exact ⟨rfl, rfl⟩

/-- R83 steps 5 and 6 leave alone a door that does not travel. -/
theorem actRest_still (hopening : (k.doors[d]).state ≠ .opening) (hclosing : (k.doors[d]).state ≠ .closing) :
    k.actRest d rep = k.actPressure d rep := by
  rw [actRest, actObstruction_none (.inr hclosing), actTravel_none (fun h => absurd h hopening) hclosing]

theorem actRest_opened (hstate : (k.doors[d]).state = .opening) (hposition : rep.position = .open) :
    ((k.actRest d rep).doors[d]).state = .open := by
  have htravel : k.actTravel d rep = k.changeState d .open := by unfold actTravel; rw [hstate, hposition]
  have hobstruction : k.actObstruction d rep = k := actObstruction_none (.inr (by rw [hstate]; decide))
  rw [actRest, hobstruction, htravel, (actPressure_door d rep).1, changeState_state]
  rfl

/-- R95, then R88: a completed close with the pressure held seals, at once or through INFLATING. -/
theorem actRest_closed (hstate : (k.doors[d]).state = .closing) (hobstruction : rep.obstruction = false)
    (hposition : rep.position = .closed) (hpressure : (k.doors[d]).pressure = rep.pressure) :
    ((k.actRest d rep).doors[d]).state =
      if (k.doors[d]).config.hold ≤ rep.pressure then .sealed else .inflating := by
  have htravel : k.actTravel d rep = k.completeClose d := by unfold actTravel; rw [hstate, hposition]
  obtain ⟨hcomplete, hconfig⟩ := completeClose_door (k := k) d
  rw [actRest, actObstruction_none (.inl hobstruction), htravel, (actPressure_door d rep).1, hcomplete, hconfig,
      hpressure]
  by_cases hhold : (k.doors[d]).config.hold ≤ rep.pressure
  · rw [if_pos hhold]
    by_cases hseal : (k.doors[d]).sealLost = false
    · rw [if_pos ⟨hhold, hseal⟩]; rfl
    · rw [if_neg (fun h => hseal h.2)]; exact if_pos ⟨rfl, hhold⟩
  · rw [if_neg hhold, if_neg (fun h => hhold h.1)]
    exact if_neg (fun h => hhold h.2)

theorem actRest_reversed (hstate : (k.doors[d]).state = .closing) (hobstruction : rep.obstruction = true)
    (hposition : rep.position ≠ .open) : ((k.actRest d rep).doors[d]).state = .opening ∧
    ((k.actRest d rep).doors[d]).retry = min 3 ((k.doors[d]).retry + 1) := by
  obtain ⟨hreversed, hretry⟩ := actObstruction_door hobstruction hstate
  have htravel : (k.actObstruction d rep).actTravel d rep = k.actObstruction d rep :=
    actTravel_none (fun _ => hposition) (by rw [hreversed]; decide)
  rw [actRest, htravel, (actPressure_door d rep).1, (actPressure_door d rep).2, hreversed, hretry]
  exact ⟨rfl, rfl⟩

end Dock

/-- Settles O40: by the steps of R83, and for a state that acts by what presence and absence leave of it. -/
theorem doorReportsMove : Obligations.DoorReportsMove := by
  intro k d rep dr k1 k' st'
  have hdoor : k1.doors[d] = { dr with presence := rep.presence, pressure := rep.pressure, position := rep.position } :=
    Dock.recordReport_door d rep
  have hsame : (k1.doors[d]).state = dr.state := by rw [hdoor]
  have hconfig : (k1.doors[d]).config = dr.config := by rw [hdoor]
  have htrailer : (k1.doors[d]).trailer = dr.trailer := by rw [hdoor]
  have hretry : (k1.doors[d]).retry = dr.retry := by rw [hdoor]
  have hpressure : (k1.doors[d]).pressure = rep.pressure := by rw [hdoor]
  have hrecorded : k1 = k.modDoor d (fun dr =>
      { dr with presence := rep.presence, pressure := rep.pressure, position := rep.position }) := rfl
  have hidle (h : dr.state = .fault ∨ dr.state = .outOfService) : k' = k1 := Dock.doorReport_idle h
  have hresync (h : dr.state = .resync) : k' = k1.derive d rep := Dock.doorReport_resync h
  have hacts (h : dr.state.acts = true) : k' = k1.actReport d rep := Dock.doorReport_acts h
  clear_value k1 k' dr
  have hstays (hpresent : rep.presence = true) (h : dr.state.acts = true ∧ dr.state ≠ .vacant)
      (hclosed : dr.state.standsClosed = false ∨ rep.position = .closed) : k' = k1.actRest d rep := by
    rw [hacts h.1]
    exact Dock.actReport_rest (Dock.actPresence_staying hpresent (by rw [hsame]; exact h.2)) (.inl rfl) (by rwa [hsame])
  have hrest {k2 : Dock} (hk' : k' = k2.actRest d rep) (hopening : (k2.doors[d]).state ≠ .opening)
      (hclosing : (k2.doors[d]).state ≠ .closing) :
      st' = (k2.doors[d]).state.pressed (k2.doors[d]).config rep.pressure := by
    show (k'.doors[d]).state = _
    rw [hk', Dock.actRest_still hopening hclosing, (Dock.actPressure_door d rep).1]
  refine ⟨hrecorded, hidle, fun habsent => ⟨fun h => ?_, fun h => ?_, fun h => ?_⟩,
    fun hpresent hopen h => ?_, fun hopen h => ⟨fun habsent => ?_, fun hpresent => ?_⟩, fun habsent hclosed h => ?_,
    fun h => ?_, fun hpresent hclosed => ⟨fun h => ?_, fun h => ?_, fun h => ?_, fun h hclear => ?_⟩,
    fun hpresent hopen h => ?_, fun hpresent hopen hobstruction h => ?_⟩
  · rw [hacts (by rw [h]; rfl)]
    exact Dock.actReport_vacated (Dock.actPresence_left habsent (hsame.trans h)) (by rw [hsame, h]; decide)
  · have hfree : dr.state.acts = true ∧ dr.state ≠ .vacant := by rcases h with h | h <;> rw [h] <;> decide
    rw [hacts hfree.1]
    exact Dock.actReport_vacated (Dock.actPresence_removed habsent (by rwa [hsame])) (by rw [hsame]; exact hfree.2)
  · have hengaged : dr.state.engaged = true := by
      rcases h with h | h | h | h
      · rw [h]; rfl
      · rw [h]; rfl
      · rw [h]; rfl
      · exact DoorState.engaged_of_notClosed h
    have hleft : k' = k1.trailerLeft d := by
      rw [hacts (DoorState.acts_of_engaged hengaged)]
      refine Dock.actReport_done (Dock.actPresence_torn habsent (by rwa [hsame])) ?_ (.inr (Dock.trailerLeft_state d))
      rw [Dock.trailerLeft_state, hsame]
      intro hfault
      rw [← hfault] at hengaged
      nomatch hengaged
    refine ⟨hleft, ?_⟩
    show (k'.doors[d]).state = .fault
    rw [hleft, Dock.trailerLeft_state]
  · have hclosed : dr.state.standsClosed = true ∧ dr.state ≠ .vacant := by
      rcases h with h | h | h | h | h | h <;> rw [h] <;> decide
    rw [hacts (DoorState.acts_of_standsClosed hclosed.1)]
    exact Dock.actReport_forced (Dock.actPresence_staying hpresent (by rw [hsame]; exact hclosed.2)) (.inl rfl)
      (by rw [hsame]; exact hclosed.1) hopen
  · rw [hacts (by rw [h]; rfl)]
    exact Dock.actReport_forced (Dock.actPresence_empty habsent (hsame.trans h)) (.inl rfl)
        (by rw [hsame, h]; rfl) hopen
  · rw [hacts (by rw [h]; rfl)]
    exact Dock.actReport_forced (Dock.actPresence_arriving hpresent (hsame.trans h)) (.inr (Dock.changeState_state ..))
      (by rw [Dock.changeState_state]; rfl) hopen
  · have hk' := (hacts (by rw [h]; rfl)).trans
      (Dock.actReport_rest (Dock.actPresence_empty habsent (hsame.trans h)) (.inl rfl) (.inr hclosed))
    rw [hrest hk' (by rw [hsame, h]; decide) (by rw [hsame, h]; decide), hsame, h]
    rfl
  · have hk' := hresync h
    obtain ⟨hseal, hretries, hgrace⟩ := Dock.derive_fresh (k := k1) d rep
    rw [← hk'] at hseal hretries hgrace
    have hsettles {st : DoorState} (hst : Dock.derivedState k1.doors[d] rep = st) (hne : st ≠ .fault)
        (hpresent : rep.presence = true) : st' = st ∧ k' = (k1.resynced d rep).changeState d st := by
      have hst' := hk'.trans (Dock.derive_settles hst hne (.inl hpresent))
      exact ⟨by show (k'.doors[d]).state = _; rw [hst', Dock.changeState_state], hst'⟩
    refine ⟨hseal, hretries, hgrace, fun habsent => ?_, fun hpresent hnone => ?_, fun hpresent hsome =>
      ⟨?_, fun hopen => ?_, fun hclosed hhold => ?_, fun hclosed hlow => ?_⟩⟩
    · obtain ⟨hvacant, hno⟩ := Dock.derive_absent (k := k1) (d := d) habsent
      rw [← hk'] at hvacant hno
      exact ⟨hvacant, hno, fun hnone =>
        hk'.trans (Dock.derive_settles (if_pos habsent) (by decide) (.inr (htrailer.trans hnone)))⟩
    · exact hsettles (Dock.derivedState_arrived hpresent (htrailer.trans hnone)) (by decide) hpresent
    · rw [hk', Dock.derive_trailer hpresent, htrailer]
    · have hfault := hk'.trans (Dock.derive_fault (Dock.derivedState_fault hpresent (by rwa [htrailer]) hopen) hpresent)
      exact ⟨by show (k'.doors[d]).state = _; rw [hfault, Dock.changeState_state], hfault⟩
    · exact hsettles (Dock.derivedState_sealed hpresent (by rwa [htrailer]) hclosed (by rwa [hconfig]))
          (by decide) hpresent
    · exact hsettles (Dock.derivedState_assigned hpresent (by rwa [htrailer]) hclosed (by rwa [hconfig])) (by decide)
        hpresent
  · have hk' := (hacts (by rw [h]; rfl)).trans (Dock.actReport_rest
      (Dock.actPresence_arriving hpresent (hsame.trans h)) (.inr (Dock.changeState_state ..)) (.inr hclosed))
    rw [hrest hk' (by rw [Dock.changeState_state]; decide) (by rw [Dock.changeState_state]; decide),
      Dock.changeState_state]
    rfl
  · have hk' := hstays hpresent (by rw [h]; decide) (.inr hclosed)
    rw [hrest hk' (by rw [hsame, h]; decide) (by rw [hsame, h]; decide), hsame, hconfig, h]
    by_cases hhold : dr.config.hold ≤ rep.pressure
    · rw [if_pos hhold]; exact if_pos ⟨rfl, hhold⟩
    · rw [if_neg hhold]; exact if_neg (fun hboth => hhold hboth.2)
  · have hk' := hstays hpresent (by rw [h]; decide) (.inr hclosed)
    rw [hrest hk' (by rw [hsame, h]; decide) (by rw [hsame, h]; decide), hsame, hconfig, h,
      DoorState.pressed, if_neg (fun hboth => nomatch hboth.1)]
    by_cases hrelease : rep.pressure ≤ dr.config.release
    · rw [if_pos hrelease]; exact if_pos ⟨rfl, hrelease⟩
    · rw [if_neg hrelease]; exact if_neg (fun hboth => hrelease hboth.2)
  · show (k'.doors[d]).state = _
    rw [hstays hpresent (by rw [h]; decide) (.inr hclosed),
      Dock.actRest_closed (hsame.trans h) hclear hclosed hpressure, hconfig]
  · show (k'.doors[d]).state = _
    rw [hstays hpresent (by rw [h]; decide) (.inl (by rw [h]; rfl)), Dock.actRest_opened (hsame.trans h) hopen]
  · show (k'.doors[d]).state = _ ∧ _
    rw [hstays hpresent (by rw [h]; decide) (.inl (by rw [h]; rfl)), ← hretry]
    exact Dock.actRest_reversed (hsame.trans h) hobstruction hopen

end Sys2Proof.Machine
